-- ==== Sys2Proof/Word.lean ====
section
/-! DEFINITION. The words and numbers of the part: bytes, 16-bit words, and the numbers of channels, groups and loads
(spec/00_scope.md, 0.6). -/

namespace Sys2Proof

/-- One byte of the host bus or of the configuration space. -/
abbrev Byte := BitVec 8

/-- A 16-bit register: INDEX, the millisecond clock, a profile generation. -/
abbrev Word16 := BitVec 16

/-- Channel CH0 to CH7. -/
abbrev Chan := Fin 8

/-- Group G0 to G3. -/
abbrev Group := Fin 4

/-- Load L0 to L11: L0 to L7 are the channel loads, L8 to L11 the group loads (R1). -/
abbrev Load := Fin 12

/-- A rank slot of a group record, 0 to 7 (R62). -/
abbrev Slot8 := Fin 8

def allChans : List Chan := [0, 1, 2, 3, 4, 5, 6, 7]
def allGroups : List Group := [0, 1, 2, 3]
def allLoads : List Load := [0, 1, 2, 3, 4, 5, 6, 7, 8, 9, 10, 11]

/-- The low byte of a number, as the two-byte fields give it first (R175). -/
def lowByte (n : Nat) : Byte := BitVec.ofNat 8 n

/-- The high byte of a 16-bit number. -/
def highByte (n : Nat) : Byte := BitVec.ofNat 8 (n / 256)

/-- A byte that shows a condition: 01h or 00h. -/
def boolByte (b : Bool) : Byte := if b then 1 else 0

end Sys2Proof
end

