-- ==== Sys2Proof/Syntax.lean ====
section
/-! DEFINITION. The names the manual uses for causes, origins, results, notices and registers, and the commands of the
part: one constructor of `Instr` for each row of spec/opcode_table.json. -/

namespace Sys2Proof

/-- Source of a request (R12 to R15, R22). -/
inductive Origin where
  | host | auto | boot | retry | requeue | wake
  deriving DecidableEq, Repr

/-- Cause of a channel fault (R54). -/
inductive FaultCause where
  | overcurrent | rampTimeout | pgLost
  deriving DecidableEq, Repr

/-- What a load is after its descent: the detail of LOAD_DOWN (R18). -/
inductive DownState where
  | idle | queued | cooling | locked
  deriving DecidableEq, Repr

/-- The reported mode (R129). -/
inductive Mode where
  | run | shed | standby | standbyShed | halted
  deriving DecidableEq, Repr

/-- Where the boot load took its image from: the detail of BOOT (R189). -/
inductive BootSource where
  | defaults | slotA | slotB
  deriving DecidableEq, Repr

/-- The result codes (spec/09, 9.8; codes in R174). -/
inductive ResultCode where
  | done | accepted | already | unknown | badTarget | member | empty | disabled | oversize | locked | halted | state
  | range | genLimit | storeFault | none
  deriving DecidableEq, Repr

/-- A notice before it is stamped: kind, subject and detail (R159, R160). -/
inductive Notice where
  | granted (l : Load) (o : Origin)
  | loadUp (l : Load)
  | loadDown (l : Load) (next : DownState)
  | fault (c : Chan) (cause : FaultCause)
  | shed (l : Load)
  | pgStuck (c : Chan)
  | strayPg (c : Chan)
  | attach (c : Chan)
  | detach (c : Chan)
  | refused (l : Load) (code : ResultCode)
  | mode (m : Mode)
  | boot (src : BootSource)
  /-- Made by the notice unit alone; counts the notices lost (R162). -/
  | overflow (count : Nat)
  deriving DecidableEq, Repr

/-- The sixteen registers of the window (R171). -/
inductive Register where
  | status | control | cmd | arg0 | arg1 | arg2 | arg3 | result | resultSeq | indexLo | indexHi | data | notice
  | noticeLevel | clockLo | clockHi
  deriving DecidableEq, Repr

/-- The registers whose writes have no row of their own: they store the byte or ignore it (R144, R148, R163, R168, R175). -/
def Register.plainWrite : Register → Bool
  | .status | .control | .cmd | .data | .notice => false
  | .arg0 | .arg1 | .arg2 | .arg3 | .result | .resultSeq | .indexLo | .indexHi | .noticeLevel | .clockLo | .clockHi => true

/-- How far a save had got when a reset or a power loss met it: the stages of R192, as the table of R193 tells them apart. -/
inductive SaveStage where
  | snapshot | erase | program | verify
  /-- In the final write, before its comparison matched. -/
  | finalWrite
  /-- After a final write whose comparison matched, before the completion. -/
  | finalMatched
  /-- In the erase that follows a failed comparison. -/
  | eraseAfterFailure
  deriving DecidableEq, Repr

/-- Which slot an interrupted ERASE_PROFILES was erasing (R194): slot B first, then slot A. -/
inductive EraseStage where
  | slotB | slotA
  deriving DecidableEq, Repr

/-- What a reset or a power loss finds of the profile store's work: read only where a save or an erase is in flight.
DESIGN CHOICE (log 16): the medium's progress is an operand, since no command moves it. -/
structure StoreProgress where
  save : SaveStage
  erase : EraseStage
  deriving DecidableEq, Repr

/-- The commands of the part, one for each row of spec/opcode_table.json, in the table's order. -/
inductive Instr where
  /-- CMD write of REQUEST (R150). -/
  | request
  /-- CMD write of RELEASE (R150). -/
  | release
  /-- CMD write of CLEAR (R92, R151). -/
  | clear
  /-- CMD write of DECLARE_OFF (R57, R151). -/
  | declareOff
  /-- CMD write of SET_BUDGET (R153). -/
  | setBudget
  /-- CMD write of SET_OVERTAKE (R154). -/
  | setOvertake
  /-- CMD write of RESUME (R128, R152). -/
  | resume
  /-- CMD write of SNAPSHOT (R155). -/
  | snapshot
  /-- CMD write of SAVE_PROFILE (R156, R192). -/
  | saveProfile
  /-- CMD write of ERASE_PROFILES (R156, R194). -/
  | eraseProfiles
  /-- CMD write of REVERT (R157, R195). -/
  | revert
  /-- CMD write of a code that is no command (R149). -/
  | unknown (code : Byte)
  /-- End of a save; `matched` says that both comparisons matched (R192). -/
  | saveProfileCompletion (matched : Bool)
  /-- End of an erase (R194). -/
  | eraseProfilesCompletion
  /-- End of a revert (R195). -/
  | revertCompletion
  /-- CONTROL write with the HALT bit at 1 (R125, R173). -/
  | haltRequest (value : Byte)
  /-- CONTROL write with the HALT bit at 0 (R173). -/
  | nieDieWrite (value : Byte)
  /-- STATUS write (R172). -/
  | statusOverrunClear (value : Byte)
  /-- Write to a register with no behaviour of its own (R171). -/
  | registerWrite (reg : Register) (value : Byte)
  /-- Read of RESULT (R148). -/
  | resultRead
  /-- Read of DATA (R175). -/
  | dataRead
  /-- Write of DATA (R181). -/
  | dataWrite (value : Byte)
  /-- Read of NOTICE (R164). -/
  | noticeRead
  /-- Write of NOTICE (R165). -/
  | noticeCursorWrite (value : Byte)
  /-- Read of CLOCK_LO (R168). -/
  | clockLoRead
  /-- One millisecond passes (R167). -/
  | clockTick
  /-- Rise of VDD (R188). -/
  | powerOnReset (reached : StoreProgress)
  /-- Fall of RESET_N (R188). -/
  | pinReset (reached : StoreProgress)
  /-- Release of reset (R188, R189). -/
  | resetRelease
  /-- End of the boot load (R191). -/
  | bootLoadEnd
  /-- A request of origin BOOT at the arbiter (R191). -/
  | bootRequest (l : Load)
  /-- The PG line takes a level (R42); `high` is the level. -/
  | pgLineChange (c : Chan) (high : Bool)
  /-- The FLT_N line takes a level (R42); `asserted` is the active, low level. -/
  | fltNLineChange (c : Chan) (asserted : Bool)
  /-- The DET line takes a level (R133). -/
  | detLineChange (c : Chan) (high : Bool)
  /-- The STBY line takes a level (R113). -/
  | stbyLineChange (asserted : Bool)
  /-- The LOWSUP line takes a level (R99). -/
  | lowsupLineChange (asserted : Bool)
  /-- The filtered PG rises (R48, R49, R51). -/
  | pgRise (c : Chan)
  /-- The filtered PG falls (R53, R55). -/
  | pgFall (c : Chan)
  /-- The filtered FLT_N asserts (R52, R53). -/
  | fltNAsserted (c : Chan)
  /-- The filtered FLT_N deasserts (R42). -/
  | fltNDeasserted (c : Chan)
  /-- The ramp timer of a channel expires (R52). -/
  | rampTimerExpiry (c : Chan)
  /-- The discharge timer of a channel expires (R55, R56). -/
  | dischargeTimerExpiry (c : Chan)
  /-- Order start ramp at a channel (R50, R51). -/
  | startRamp (c : Chan)
  /-- Order wait turn at a channel (R50). -/
  | waitTurn (c : Chan)
  /-- Order fall at a channel (R50, R55). -/
  | fall (c : Chan)
  /-- Order cancel turn at a channel (R49, R50). -/
  | cancelTurn (c : Chan)
  /-- Channel ON report at the load sequencer (R70). -/
  | channelOn (c : Chan)
  /-- Fall complete report at the load sequencer (R71, R74). -/
  | fallComplete (c : Chan)
  /-- The stagger timer of a record expires (R70). -/
  | staggerTimerExpiry (l : Load)
  /-- Fault report at the arbiter (R82 to R84). -/
  | faultReport (c : Chan) (cause : FaultCause)
  /-- The arbiter hands a granted load to the load sequencer (R69). -/
  | grantHandover (l : Load)
  /-- Orderly descent order at the load sequencer (R73). -/
  | orderlyDescentOrder (l : Load)
  /-- Trip order at the load sequencer (R78). -/
  | tripOrder (l : Load)
  /-- Return report at the load sequencer (R76). -/
  | returnReport (l : Load)
  /-- Cancel drain at the load sequencer (R77). -/
  | cancelDrain (l : Load)
  /-- "load UP" at the arbiter (R72). -/
  | loadUp (l : Load)
  /-- "descent ended" at the arbiter (R18). -/
  | descentEnded (l : Load)
  /-- "drain ended" at the arbiter (R77). -/
  | drainEnded (l : Load)
  /-- A grant pass (R33). -/
  | grantPass
  /-- The cooling timer of a load expires (R89). -/
  | coolDownExpiry (l : Load)
  /-- The stable timer of a load expires (R90). -/
  | stableTimerExpiry (l : Load)
  /-- The filtered LOWSUP takes a level (R101). -/
  | lowsupFilterChange (asserted : Bool)
  /-- The filtered STBY asserts (R115). -/
  | standbyEvent
  /-- The filtered STBY deasserts (R123). -/
  | wakeEvent
  /-- The standby spacing timer expires (R119). -/
  | spacingTimerExpiry
  /-- The filtered DET takes a level (R134). -/
  | detFilterChange (c : Chan) (high : Bool)
  /-- The debounce timer of a channel expires (R134). -/
  | debounceTimerExpiry (c : Chan)
  /-- A request of origin AUTO at the arbiter (R136). -/
  | autoRequest (l : Load)
  /-- A release from the detect unit at the arbiter (R137). -/
  | autoRelease (l : Load)
  /-- A block hands a notice to the notice unit (R162). -/
  | noticeHandover (n : Notice)
  /-- Loss of VDD (R193). -/
  | powerLoss (reached : StoreProgress)
  deriving DecidableEq, Repr

end Sys2Proof
end

