-- ==== Sys2Proof/Decode.lean ====
section
/-! DEFINITION. Words of the opcode table. The part has no instruction words: no row of spec/opcode_table.json gives bits. -/

namespace Sys2Proof

/-- The command that a word of `nbits` bits spells by the table's bits: no row of the table gives bits, so no word spells
a command. -/
def decodeTableWord (_nbits _w : Nat) : Option Instr := none

end Sys2Proof
end

