-- ==== Sys2Proof/Config.lean ====
section
/-! DEFINITION. What an LB8 fixes for good (capacities, identification, limits of spec/00_scope.md, 0.6 and R177), and the
one free value. -/

namespace Sys2Proof

/-- Places of the notice FIFO (R162, R177). -/
def Config.fifoDepth : Nat := 16

/-- An ordinary notice is stored only while at most this many records are held (R162). -/
def Config.fifoOrdinary : Nat := 14

/-- Highest dropped count of an OVERFLOW record (R162). -/
def Config.maxDropped : Nat := 255

/-- Highest FULL (R7, R149). -/
def Config.maxFull : Nat := 2047

/-- Highest overtake limit (R26, R149). -/
def Config.maxOvertake : Nat := 15

/-- Highest generation of a valid slot (R187). -/
def Config.maxGeneration : Nat := 65534

/-- Generation of an erased slot (R187). -/
def Config.erasedGeneration : Word16 := 0xFFFF

/-- Part code and revision (R177). -/
def Config.partCode : Byte := 0x4C
def Config.revision : Byte := 0x01

/-- Length of the filters on STBY and LOWSUP in milliseconds (R99, R113). -/
def Config.slowFilterMs : Nat := 2

/-- FREE VALUE, DESIGN CHOICE (log 15): the generation a slot shows as stored when its erase or its final write was
interrupted. The manual calls the slot invalid (R193, R194) and states no generation for it. -/
opaque Config.interruptedGeneration : Nat → Word16

end Sys2Proof
end

