-- ==== Sys2Proof/Machine/Image.lean ====
section
/-! DEFINITION. The working configuration: the records that a profile slot saves, the boot load and REVERT replace, and host
software writes through the configuration space (R2, R45, R62, R180, R187), with the factory defaults (R190). -/

namespace Sys2Proof.Machine

/-- What a presence change does (R135). -/
inductive DetectMode where
  | manual | notify | auto
  deriving DecidableEq, Repr

/-- Which electrical level of EN is asserted (R43). -/
inductive Polarity where
  | activeHigh | activeLow
  deriving DecidableEq, Repr

/-- Configuration record of a channel (R45). -/
structure ChannelConfig where
  enabled : Bool
  /-- 1 to 255 BU. -/
  claim : Byte
  /-- 1 to 255 ms. -/
  rampTimeout : Byte
  /-- 1 to 255 ms. -/
  dischargeTime : Byte
  /-- 0 to 255 ms. -/
  debounce : Byte
  detect : DetectMode
  polarity : Polarity
  deriving DecidableEq, Repr

/-- Configuration fields of a load record (R2). -/
structure LoadConfig where
  /-- 7 is most important. -/
  priority : Fin 8
  parent : Option Load
  retryLimit : Fin 8
  /-- 1 to 255, units of 10 ms. -/
  coolDownBase : Byte
  /-- 1 to 255, units of 100 ms. -/
  stableTime : Byte
  bootOn : Bool
  requeueAfterShed : Bool
  keepInStandby : Bool
  resumeAfterStandby : Bool
  deriving DecidableEq, Repr

/-- Group record (R62): the member list in rank order stands for the rank slots, slot k holding member k or none. -/
structure GroupConfig where
  members : List Chan
  /-- 0 to 255 ms. -/
  stagger : Byte
  deriving DecidableEq, Repr

/-- The whole working configuration, the image of a slot (R187). -/
structure Image where
  channels : Vector ChannelConfig 8
  loads : Vector LoadConfig 12
  groups : Vector GroupConfig 4
  /-- Standby spacing, 0 to 255 ms (R119). -/
  spacing : Byte
  /-- Bit k − 1 enables the notice kind with code k (R180). -/
  mask : BitVec 12
  full : Nat
  reduced : Nat
  overtake : Nat
  deriving DecidableEq, Repr

/-- R190, each channel. -/
def ChannelConfig.factory : ChannelConfig :=
  { enabled := false, claim := 1, rampTimeout := 10, dischargeTime := 10, debounce := 20, detect := .manual,
    polarity := .activeHigh }

/-- R190, each load. -/
def LoadConfig.factory : LoadConfig :=
  { priority := 0, parent := none, retryLimit := 0, coolDownBase := 10, stableTime := 10, bootOn := false,
    requeueAfterShed := false, keepInStandby := false, resumeAfterStandby := false }

/-- R190, each group. -/
def GroupConfig.factory : GroupConfig := { members := [], stagger := 0 }

/-- The factory defaults (R190). -/
def Image.factory : Image :=
  { channels := Vector.replicate 8 ChannelConfig.factory
    loads := Vector.replicate 12 LoadConfig.factory
    groups := Vector.replicate 4 GroupConfig.factory
    spacing := 0
    mask := BitVec.allOnes 12
    full := 0
    reduced := 0
    overtake := 0 }

/-- Load of a channel standing alone (R1). -/
def ownLoad (c : Chan) : Load := ⟨c.val, by omega⟩

/-- Load of a group (R62). -/
def groupLoad (g : Group) : Load := ⟨8 + g.val, by omega⟩

/-- The channel or the group that a load stands for (R1). -/
def loadKind (l : Load) : Chan ⊕ Group :=
  if h : l.val < 8 then .inl ⟨l.val, h⟩ else .inr ⟨l.val - 8, by omega⟩

/-- The group a channel belongs to, if any (R62). -/
def Image.groupOf (img : Image) (c : Chan) : Option Group := allGroups.find? fun g => (img.groups[g]).members.contains c

/-- The channel's rank in its group (R62). -/
def Image.rankOf (img : Image) (c : Chan) : Option Nat :=
  (img.groupOf c).map fun g => (img.groups[g]).members.idxOf c

/-- The load the channel serves: its group's load while it is a member, its own load while it stands alone (R1, R82). -/
def Image.servedLoad (img : Image) (c : Chan) : Load :=
  match img.groupOf c with
  | some g => groupLoad g
  | none => ownLoad c

/-- The channels of a load, rank 0 first; none for a channel load whose channel is a group member (R1). -/
def Image.channelsOf (img : Image) (l : Load) : List Chan :=
  match loadKind l with
  | .inl c => if (img.groupOf c).isSome then [] else [c]
  | .inr g => (img.groups[g]).members

/-- The claim of a load: the sum of its channels' claims (R1). -/
def Image.claimOf (img : Image) (l : Load) : Nat := ((img.channelsOf l).map fun c => (img.channels[c]).claim.toNat).sum

/-- Whether every channel of the load has its enabled field set (R13). -/
def Image.allEnabled (img : Image) (l : Load) : Bool := (img.channelsOf l).all fun c => (img.channels[c]).enabled

/-- The stagger of a load's group; a channel load has none (R62). -/
def Image.staggerOf (img : Image) (l : Load) : Nat :=
  match loadKind l with
  | .inl _ => 0
  | .inr g => (img.groups[g]).stagger.toNat

/-- A channel whose presence requests and releases: in AUTO, and standing alone or the lead of its group (R135). -/
def Image.acting (img : Image) (c : Chan) : Bool :=
  (img.channels[c]).detect == .auto &&
    match img.groupOf c with
    | some g => (img.groups[g]).members.head? == some c
    | none => true

/-- Whether a load is ABSORBED or VOID under a membership: a channel load whose channel is a member, a group load without
members (R5). -/
def Image.offered (img : Image) (l : Load) : Bool :=
  match loadKind l with
  | .inl c => (img.groupOf c).isNone
  | .inr g => !(img.groups[g]).members.isEmpty

end Sys2Proof.Machine
end

