-- ==== Sys2Proof/Machine/State.lean ====
section
/-! DEFINITION. The state of the part as plain data, and the state in which reset is held after power has come up. INVENTORY.md
lists each field with the rule that names it. -/

namespace Sys2Proof.Machine

/-- The block raises no fault: no command stops it (INVENTORY.md, Faults). The type has no value. -/
inductive Fault where
  deriving DecidableEq, Repr

/-- Why a command has no meaning. -/
inductive Refusal where
  /-- Raised by exec's arm of a command that is not modelled yet; safe. No arm raises it. -/
  | notModelled (mnemonic : String)
  deriving DecidableEq, Repr

/-- A timer of the arbiter, the load sequencer, a channel or the detect unit: stopped, or running with the milliseconds
left; at 0 its expiry is due (00, 0.6; log 4). -/
inductive Timer where
  | stopped
  | running (left : Nat)
  deriving DecidableEq, Repr

/-- The discharge timer, which also stays expired until the fall ends (R47, R55). -/
inductive DischargeTimer where
  | stopped
  | running (left : Nat)
  | expired
  deriving DecidableEq, Repr

/-- STBY or LOWSUP: the level of the pin, the filtered level, the 2 ms the new level has still to hold, and the levels that the
pin has held for their 2 ms and the filter has not taken yet, oldest first (R99, R113; log 6). -/
structure SlowLine where
  line : Bool
  filtered : Bool
  qualify : Timer
  due : List Bool
  deriving DecidableEq, Repr

/-- State of a channel (R43, R47). -/
inductive ChanState where
  | off | waitTurn | ramp | on | fall
  deriving DecidableEq, Repr

/-- The lines of a channel with their filtered levels, the runtime record of its sequencer (R47) and its detect state
(R134). PG and DET are held as "high", FLT_N as "asserted". A line's filter is qualifying while line and filtered level
differ (R42, R133). -/
structure Channel where
  pgLine : Bool
  pg : Bool
  fltLine : Bool
  flt : Bool
  detLine : Bool
  det : Bool
  state : ChanState
  lastFault : Option FaultCause
  stuck : Bool
  ramp : Timer
  discharge : DischargeTimer
  strayNoted : Bool
  /-- The debounced state is present (R134). -/
  present : Bool
  debounce : Timer
  deriving DecidableEq, Repr

/-- What follows a descent (R3, R19). -/
inductive After where
  | idle | requeue | retry
  deriving DecidableEq, Repr

/-- State of a load; the after field is present in DESCENDING only (R3, R4). -/
inductive LoadState where
  | idle | queued | rising | up | draining
  | descending (after : After)
  | cooling | locked | absorbed | void
  deriving DecidableEq, Repr

/-- Runtime part of a load record, less the reservation amount, which the holder list keeps (R3). -/
structure LoadRun where
  state : LoadState
  attempts : Nat
  cooling : Timer
  stable : Timer
  deriving DecidableEq, Repr

/-- An entry of the holder list (R9). -/
structure Holder where
  load : Load
  amount : Nat
  deriving DecidableEq, Repr

/-- An entry of the wait queue (R22). -/
structure Entry where
  load : Load
  priority : Fin 8
  origin : Origin
  overtaken : Nat
  deriving DecidableEq, Repr

/-- The standby descent record; current and the spacing timer stand in their phases only (R116). -/
inductive Descent where
  | inactive
  | seeking
  | lowering (current : Load)
  | spacing (left : Nat)
  deriving DecidableEq, Repr

/-- Phase of a load sequencer record (R68). -/
inductive Phase where
  | rise | steady | drain | hold | orderly | immediate
  deriving DecidableEq, Repr

/-- A load sequencer record; its load is its place in the table (R68). The sets hold each channel once. -/
structure SeqRecord where
  phase : Phase
  step : Nat
  stagger : Timer
  outSet : List Chan
  onSet : List Chan
  stalled : Bool
  drainReported : Bool
  deriving DecidableEq, Repr

/-- Slot A or slot B (R187). -/
inductive SlotId where
  | a | b
  deriving DecidableEq, Repr

/-- A profile slot; the check word is held as whether it matches generation and image (R187; log 14). -/
structure Slot where
  generation : Word16
  image : Image
  checkMatches : Bool
  deriving DecidableEq, Repr

/-- An erased slot (R187). -/
def Slot.erased : Slot := { generation := Config.erasedGeneration, image := Image.factory, checkMatches := false }

/-- The slot bytes of the information region as they read (R177, R187). -/
structure SlotInfo where
  active : Option SlotId
  validA : Bool
  generationA : Word16
  validB : Bool
  generationB : Word16
  deriving DecidableEq, Repr

/-- The slot bytes while reset is held (R188). -/
def SlotInfo.blank : SlotInfo :=
  { active := none, validA := false, generationA := Config.erasedGeneration, validB := false,
    generationB := Config.erasedGeneration }

/-- A long command in flight at the profile store (R146, R192, R194, R195). -/
inductive LongOp where
  | save (buffer : Image) (target : SlotId) (generation : Word16)
  | erase
  | revert
  deriving DecidableEq, Repr

/-- State of the command unit (R143). -/
inductive UnitState where
  | booting
  | ready
  | executing (op : LongOp)
  deriving DecidableEq, Repr

/-- Reason of a refused configuration write (R182). -/
inductive Reason where
  | none | readOnly | undefined | state | range | cycle | duplicate | inUse | booting
  deriving DecidableEq, Repr

/-- A record of the notice FIFO (R159). -/
structure Record where
  notice : Notice
  time : Word16
  deriving DecidableEq, Repr

/-- What the view area holds of a channel (R185). -/
structure ChannelView where
  state : ChanState
  lastFault : Option FaultCause
  stuck : Bool
  enAsserted : Bool
  pg : Bool
  flt : Bool
  present : Bool
  deriving DecidableEq, Repr

/-- The copy SNAPSHOT makes (R155, R185). -/
structure Snapshot where
  time : Word16
  mode : Mode
  ceiling : Nat
  committed : Nat
  headroom : Nat
  queue : List Entry
  holders : List Holder
  /-- State, with after, and attempts of each load. -/
  loads : Vector (LoadState × Nat) 12
  chans : Vector ChannelView 8
  resume : List Load
  deriving DecidableEq, Repr

/-- Kind of reset (R188). -/
inductive ResetCause where
  | powerOn | pin
  deriving DecidableEq, Repr

/-- Whether the part has power and is out of reset (R188). -/
inductive PowerPhase where
  | unpowered
  | held (cause : ResetCause)
  | released
  deriving DecidableEq, Repr

/-- What made the detect unit hand over a request or a release: an attach or a detach of a channel (R135), the completion of a
REVERT, a RESUME, or another re-presentation (R139). -/
inductive DetectSource where
  | change (c : Chan)
  | revert
  | resume
  | asked
  deriving DecidableEq, Repr

/-- The whole state. -/
structure State where
  /-- The commands that wait, first in, first out. -/
  pending : List Instr
  /-- The events the units have sent each other and not taken yet, oldest first (log 2). -/
  posted : List Instr
  /-- What made each request and release of the detect unit that is in flight, oldest first; R139 and R141 keep some writes and
  commands from overtaking them by it (log 27). -/
  sources : List DetectSource
  phase : PowerPhase
  resetCause : ResetCause
  stby : SlowLine
  lowsup : SlowLine
  chans : Vector Channel 8
  loads : Vector LoadRun 12
  holders : List Holder
  queue : List Entry
  ceiling : Nat
  halted : Bool
  descent : Descent
  resume : List Load
  seq : Vector (Option SeqRecord) 12
  args : Vector Byte 4
  argCopy : Vector Byte 4
  cmd : Byte
  result : ResultCode
  resultSeq : Byte
  cmdDone : Bool
  overrun : Bool
  unit : UnitState
  index : Word16
  nie : Bool
  die : Bool
  wrej : Bool
  rejIndex : Word16
  rejReason : Reason
  /-- The copy of the last SNAPSHOT, none since reset (R185). -/
  view : Option Snapshot
  /-- The byte the last read strobe drove on D0 to D7, none since reset (log 17). -/
  busOut : Option Byte
  fifo : List Record
  /-- The read cursor: value k names byte k + 1 (R164). -/
  cursor : Fin 5
  clock : Word16
  /-- The latch CLOCK_HI reads (R168). -/
  clockLatch : Byte
  config : Image
  slotA : Slot
  slotB : Slot
  active : Option SlotId
  /-- The slot bytes of the information region. -/
  shown : SlotInfo
  /-- The model's counter behind the free value (log 15). -/
  freeCount : Nat
  deriving DecidableEq, Repr

/-- A channel while reset is held, with its lines at the given levels (R61, R142). DESIGN CHOICE (log 12): the filtered PG and DET
are low and the filtered FLT_N is deasserted; the manual gives them no level before the end of the boot load (R42, R133). -/
def Channel.atReset (pgLine fltLine detLine : Bool) : Channel :=
  { pgLine := pgLine, pg := false, fltLine := fltLine, flt := false, detLine := detLine, det := false, state := .off,
    lastFault := none, stuck := false, ramp := .stopped, discharge := .stopped, strayNoted := false, present := false,
    debounce := .stopped }

/-- The runtime part of a load while reset is held (R21; the state is DESIGN CHOICE, log 12). -/
def LoadRun.atReset : LoadRun := { state := .idle, attempts := 0, cooling := .stopped, stable := .stopped }

/-- A line while reset is held, with its pin at the given level (R100, R132). -/
def SlowLine.atReset (line : Bool) : SlowLine := { line := line, filtered := false, qualify := .stopped, due := [] }

/-- The part while its first power-on reset is held (R188): every item at the reset value of its chapter. DESIGN CHOICE (logs 8 to 12): the
pins' levels, the filtered levels of PG, FLT_N and DET, the slots' contents, the working configuration, the load states, the ceiling,
the command unit's state, the argument copy and the reset cause. -/
def State.reset : State :=
  { pending := []
    posted := []
    sources := []
    phase := .held .powerOn
    resetCause := .powerOn
    stby := SlowLine.atReset false
    lowsup := SlowLine.atReset false
    chans := Vector.replicate 8 (Channel.atReset false false false)
    loads := Vector.replicate 12 LoadRun.atReset
    holders := []
    queue := []
    ceiling := 0
    halted := false
    descent := .inactive
    resume := []
    seq := Vector.replicate 12 none
    args := Vector.replicate 4 0
    argCopy := Vector.replicate 4 0
    cmd := 0
    result := .none
    resultSeq := 0
    cmdDone := false
    overrun := false
    unit := .booting
    index := 0
    nie := false
    die := false
    wrej := false
    rejIndex := 0
    rejReason := .none
    view := none
    busOut := none
    fifo := []
    cursor := 0
    clock := 0
    clockLatch := 0
    config := Image.factory
    slotA := Slot.erased
    slotB := Slot.erased
    active := none
    shown := SlotInfo.blank
    freeCount := 0 }

end Sys2Proof.Machine
end

