-- ==== Sys2Proof/Machine/Flags.lean ====
section
/-! DEFINITION. Everything the manual reads off the state: the account, the facets and the reported mode, the phases of the part,
the levels of the output lines, and the bytes of STATUS and CONTROL. -/

namespace Sys2Proof.Machine

/-- Out of reset: the window decodes every cycle and the clock runs (R171, R167). -/
def State.released (s : State) : Bool := s.phase == .released

/-- The command unit is BOOTING (R143). -/
def UnitState.isBooting : UnitState → Bool
  | .booting => true
  | .ready | .executing _ => false

/-- The command unit is EXECUTING (R143). -/
def UnitState.isExecuting : UnitState → Bool
  | .executing _ => true
  | .ready | .booting => false

/-- A REVERT is in flight (R183). -/
def UnitState.isReverting : UnitState → Bool
  | .executing .revert => true
  | .executing (.save _ _ _) | .executing .erase | .ready | .booting => false

/-- The boot load has ended, so the filters run and the arbiter, the channels and the detect unit serve events (R191). -/
def State.running (s : State) : Bool := s.released && !s.unit.isBooting

/-- The boot load runs (R143, R189). -/
def State.booting (s : State) : Bool := s.released && s.unit.isBooting

/-- The working configuration is being loaded (R183). -/
def State.loading (s : State) : Bool := s.released && (s.unit.isBooting || s.unit.isReverting)

/-- The load record and its state. -/
def State.load (s : State) (l : Load) : LoadRun := s.loads[l]
def State.chan (s : State) (c : Chan) : Channel := s.chans[c]
def State.record (s : State) (l : Load) : Option SeqRecord := s.seq[l]

/-- Configuration records of the working configuration. -/
def State.loadConfig (s : State) (l : Load) : LoadConfig := s.config.loads[l]
def State.chanConfig (s : State) (c : Chan) : ChannelConfig := s.config.channels[c]

/-- RISING, UP or DRAINING: the states of the standing sum (R102). -/
def LoadState.standing : LoadState → Bool
  | .rising | .up | .draining => true
  | .idle | .queued | .descending _ | .cooling | .locked | .absorbed | .void => false

/-- The states that hold a reservation (R4). -/
def LoadState.holding : LoadState → Bool
  | .rising | .up | .draining | .descending _ => true
  | .idle | .queued | .cooling | .locked | .absorbed | .void => false

/-- The states in which the stable timer may run (R3). -/
def LoadState.stableRuns : LoadState → Bool
  | .up | .draining => true
  | .idle | .queued | .rising | .descending _ | .cooling | .locked | .absorbed | .void => false

/-- Sum of the reservation amounts on a holder list (R9). -/
def amounts (hs : List Holder) : Nat := (hs.map (·.amount)).sum

/-- committed (R9). -/
def State.committed (s : State) : Nat := amounts s.holders

/-- headroom, 0 when committed exceeds the ceiling (R11). -/
def State.headroom (s : State) : Nat := s.ceiling - s.committed

/-- The account is over (R11, R106 to R108). -/
def State.over (s : State) : Bool := decide (s.ceiling < s.committed)

/-- The holders in RISING, UP or DRAINING (R102, R103). -/
def State.standingHolders (s : State) : List Holder := s.holders.filter fun h => (s.load h.load).state.standing

/-- The standing sum (R102). -/
def State.standingSum (s : State) : Nat := amounts s.standingHolders

/-- The ceiling that FULL, REDUCED and the filtered LOWSUP give (R8). -/
def State.ceilingNow (s : State) : Nat := if s.lowsup.filtered then s.config.reduced else s.config.full

/-- The standby facet (R113). -/
def State.standbyFacet (s : State) : Bool := s.stby.filtered

/-- The reported mode (R129). -/
def State.mode (s : State) : Mode :=
  if s.halted then .halted
  else match s.standbyFacet, s.over with
    | false, false => .run
    | false, true => .shed
    | true, false => .standby
    | true, true => .standbyShed

/-- A load with a reservation, in any of the four holder states (R16): it stands on the holder list. -/
def State.holds (s : State) (l : Load) : Bool := s.holders.any fun h => h.load == l

/-- The parents above a load, nearest first, found in at most `fuel` steps; the parent field of an ABSORBED load has no effect
(R2, R66). Twelve steps see every chain (R66). -/
def State.ancestors (s : State) : Nat → Load → List Load
  | 0, _ => []
  | fuel + 1, l =>
    if (s.load l).state = .absorbed then []
    else match (s.loadConfig l).parent with
      | none => []
      | some p => p :: s.ancestors fuel p

/-- Load x is a descendant of load l (R66). -/
def State.descendantOf (s : State) (x l : Load) : Bool := (s.ancestors 12 x).contains l

/-- The descendants of a load that hold a reservation, in the order of the holder list (R16, R75, R78). -/
def State.holdingDescendants (s : State) (l : Load) : List Load :=
  (s.holders.map (·.load)).filter fun x => s.descendantOf x l

/-- A load whose record, and whose channels' records, may be written: IDLE or LOCKED (R45). -/
def LoadState.idleOrLocked : LoadState → Bool
  | .idle | .locked => true
  | .queued | .rising | .up | .draining | .descending _ | .cooling | .absorbed | .void => false

/-- EN is asserted (R43). -/
def ChanState.enAsserted : ChanState → Bool
  | .ramp | .on => true
  | .off | .waitTurn | .fall => false

/-- Electrical level of an output line. -/
inductive PinLevel where
  | low | high | highImpedance
  deriving DecidableEq, Repr

/-- Electrical level of EN under a polarity (R43). -/
def Polarity.level : Polarity → Bool → PinLevel
  | .activeHigh, true | .activeLow, false => .high
  | .activeHigh, false | .activeLow, true => .low

/-- Level of a channel's EN line: high-impedance until the boot load has ended (R43, R44, R188). DESIGN CHOICE (log 25): likewise while
the part has no power. -/
def State.enPin (s : State) (c : Chan) : PinLevel :=
  if s.running then (s.chanConfig c).polarity.level (s.chan c).state.enAsserted else .highImpedance

/-- INT_N is asserted (R169). -/
def State.intAsserted (s : State) : Bool := (!s.fifo.isEmpty && s.nie) || (s.cmdDone && s.die)

/-- Code of a mode (R172). -/
def modeCode : Mode → Nat
  | .run => 0 | .shed => 1 | .standby => 2 | .standbyShed => 3 | .halted => 4

/-- STATUS (R172). -/
def State.statusByte (s : State) : Byte :=
  BitVec.ofNat 8 (s.cmdDone.toNat + 2 * (!s.fifo.isEmpty).toNat + 4 * (s.released && s.unit.isExecuting).toNat
    + 8 * s.booting.toNat + 16 * s.overrun.toNat + 32 * modeCode s.mode)

/-- CONTROL (R173). -/
def State.controlByte (s : State) : Byte := BitVec.ofNat 8 (s.nie.toNat + 2 * s.die.toNat + 4 * s.halted.toNat)

end Sys2Proof.Machine
end

