-- ==== Sys2Proof/Machine/Operands.lean ====
section
/-! DEFINITION. The codes of registers, records and notices (R172 to R186), the bytes of the configuration space, and the values
its writable fields admit. -/

namespace Sys2Proof.Machine

/-- Result codes (R174). -/
def resultByte : ResultCode → Byte
  | .done => 0x00 | .accepted => 0x01 | .already => 0x02 | .unknown => 0x10 | .badTarget => 0x11 | .member => 0x12
  | .empty => 0x13 | .disabled => 0x14 | .oversize => 0x15 | .locked => 0x16 | .halted => 0x17 | .state => 0x18
  | .range => 0x19 | .genLimit => 0x1A | .storeFault => 0x1B | .none => 0xFF

/-- Codes of the refusal reasons (R182). -/
def reasonByte : Reason → Byte
  | .none => 0x00 | .readOnly => 0x01 | .undefined => 0x02 | .state => 0x03 | .range => 0x04 | .cycle => 0x05
  | .duplicate => 0x06 | .inUse => 0x07 | .booting => 0x08

/-- Load state codes (R185). -/
def loadStateByte : LoadState → Byte
  | .idle => 0 | .queued => 1 | .rising => 2 | .up => 3 | .draining => 4 | .descending _ => 5 | .cooling => 6 | .locked => 7
  | .absorbed => 8 | .void => 9

/-- after codes, FFh when absent (R185). -/
def afterByte : LoadState → Byte
  | .descending .idle => 0 | .descending .requeue => 1 | .descending .retry => 2
  | .idle | .queued | .rising | .up | .draining | .cooling | .locked | .absorbed | .void => 0xFF

/-- Channel state codes (R185). -/
def chanStateByte : ChanState → Byte
  | .off => 0 | .waitTurn => 1 | .ramp => 2 | .on => 3 | .fall => 4

/-- Fault cause codes (R185). -/
def causeByte : FaultCause → Byte
  | .overcurrent => 1 | .rampTimeout => 2 | .pgLost => 3

/-- last-fault codes (R185). -/
def lastFaultByte : Option FaultCause → Byte
  | none => 0
  | some cause => causeByte cause

/-- Origin codes (R185). -/
def originByte : Origin → Byte
  | .host => 0 | .auto => 1 | .boot => 2 | .retry => 3 | .requeue => 4 | .wake => 5

/-- The detail of LOAD_DOWN, as a load state code (R186). -/
def downByte : DownState → Byte
  | .idle => 0 | .queued => 1 | .cooling => 6 | .locked => 7

/-- The detail of BOOT (R186). -/
def bootByte : BootSource → Byte
  | .defaults => 0 | .slotA => 1 | .slotB => 2

/-- A load or channel number, FFh for none (R185). -/
def numberByte {n : Nat} : Option (Fin n) → Byte
  | some k => BitVec.ofNat 8 k.val
  | none => 0xFF

/-- Kind codes (R186). -/
def kindCode : Notice → Nat
  | .granted _ _ => 1 | .loadUp _ => 2 | .loadDown _ _ => 3 | .fault _ _ => 4 | .shed _ => 5 | .pgStuck _ => 6 | .strayPg _ => 7
  | .attach _ => 8 | .detach _ => 9 | .refused _ _ => 10 | .mode _ => 11 | .boot _ => 12 | .overflow _ => 15

/-- Byte 2 of a notice record (R186). -/
def subjectByte : Notice → Byte
  | .granted l _ | .loadUp l | .loadDown l _ | .shed l | .refused l _ => BitVec.ofNat 8 l.val
  | .fault c _ | .pgStuck c | .strayPg c | .attach c | .detach c => BitVec.ofNat 8 c.val
  | .mode _ | .boot _ | .overflow _ => 0xFF

/-- Byte 3 of a notice record (R186). -/
def detailByte : Notice → Byte
  | .granted _ o => originByte o
  | .loadDown _ d => downByte d
  | .fault _ cause => causeByte cause
  | .refused _ code => resultByte code
  | .mode m => BitVec.ofNat 8 (modeCode m)
  | .boot src => bootByte src
  | .overflow count => BitVec.ofNat 8 count
  | .loadUp _ | .shed _ | .pgStuck _ | .strayPg _ | .attach _ | .detach _ => 0

/-- Byte k + 1 of a notice record (R186). -/
def recordByte (r : Record) : Fin 5 → Byte
  | 0 => BitVec.ofNat 8 (kindCode r.notice)
  | 1 => subjectByte r.notice
  | 2 => detailByte r.notice
  | 3 => lowByte r.time.toNat
  | 4 => highByte r.time.toNat

/-- What NOTICE reads: the byte of the head record that the cursor names, 00h from an empty FIFO (R164). -/
def State.noticeByte (s : State) : Byte :=
  match s.fifo with
  | [] => 0
  | r :: _ => recordByte r s.cursor

/-- Detect mode codes (R178). -/
def detectByte : DetectMode → Byte
  | .manual => 0 | .notify => 1 | .auto => 2

/-- EN polarity codes (R178). -/
def polarityByte : Polarity → Byte
  | .activeHigh => 0 | .activeLow => 1

/-- The values of a yes or no field (R178). -/
def boolOfByte (v : Byte) : Option Bool := if v = 0 then some false else if v = 1 then some true else none

def detectOfByte (v : Byte) : Option DetectMode :=
  if v = 0 then some .manual else if v = 1 then some .notify else if v = 2 then some .auto else none

def polarityOfByte (v : Byte) : Option Polarity :=
  if v = 0 then some .activeHigh else if v = 1 then some .activeLow else none

/-- A number below n, or nothing. -/
def finOfByte (n : Nat) (v : Byte) : Option (Fin n) := if h : v.toNat < n then some ⟨v.toNat, h⟩ else none

/-- Fields of a channel record (R178). -/
inductive ChanField where
  | enabled | claim | rampTimeout | dischargeTime | debounce | detect | polarity | group | rank
  deriving DecidableEq, Repr

/-- Fields of a load record (R179). -/
inductive LoadField where
  | priority | parent | retryLimit | coolDownBase | stableTime | flags | claimLow | claimHigh
  deriving DecidableEq, Repr

/-- What an index of the configuration space names (R176). -/
inductive Location where
  | undefined
  /-- A byte of the information region other than WREJ (R177). -/
  | info (offset : Nat)
  /-- 0010h (R177). -/
  | wrej
  | chan (c : Chan) (f : ChanField)
  | load (l : Load) (f : LoadField)
  | slot (g : Group) (k : Slot8)
  | stagger (g : Group)
  | memberCount (g : Group)
  | spacing | maskLow | maskHigh | fullLow | fullHigh | reducedLow | reducedHigh | overtake
  /-- A byte of the view area (R185). -/
  | view (offset : Nat)
  deriving DecidableEq, Repr

def chanFieldAt : Nat → Option ChanField
  | 0 => some .enabled | 1 => some .claim | 2 => some .rampTimeout | 3 => some .dischargeTime | 4 => some .debounce
  | 5 => some .detect | 6 => some .polarity | 7 => some .group | 8 => some .rank | _ => none

def loadFieldAt : Nat → Option LoadField
  | 0 => some .priority | 1 => some .parent | 2 => some .retryLimit | 3 => some .coolDownBase | 4 => some .stableTime
  | 5 => some .flags | 6 => some .claimLow | 7 => some .claimHigh | _ => none

def globalAt : Nat → Location
  | 0 => .spacing | 1 => .maskLow | 2 => .maskHigh | 3 => .fullLow | 4 => .fullHigh | 5 => .reducedLow | 6 => .reducedHigh
  | 7 => .overtake | _ => .undefined

/-- Information region at 0000h (R177); 000Fh is undefined. -/
def infoAt (n : Nat) : Location := if n = 0x10 then .wrej else if n = 0x0F then .undefined else .info n

/-- Channel records, 16 bytes each, from 0100h (R178). -/
def chanAt (n : Nat) : Location :=
  match chanFieldAt (n % 16) with
  | some f => if h : n / 16 < 8 then .chan ⟨n / 16, h⟩ f else .undefined
  | none => .undefined

/-- Load records, 16 bytes each, from 0200h (R179). -/
def loadAt (n : Nat) : Location :=
  match loadFieldAt (n % 16) with
  | some f => if h : n / 16 < 12 then .load ⟨n / 16, h⟩ f else .undefined
  | none => .undefined

/-- Group records, 16 bytes each, from 0300h (R180). -/
def groupAt (n : Nat) : Location :=
  if hg : n / 16 < 4 then
    if hk : n % 16 < 8 then .slot ⟨n / 16, hg⟩ ⟨n % 16, hk⟩
    else if n % 16 = 8 then .stagger ⟨n / 16, hg⟩
    else if n % 16 = 9 then .memberCount ⟨n / 16, hg⟩
    else .undefined
  else .undefined

/-- The regions of the configuration space (R176). -/
def locate (index : Word16) : Location :=
  let n := index.toNat
  if n < 0x14 then infoAt n
  else if 0x100 ≤ n ∧ n < 0x180 then chanAt (n - 0x100)
  else if 0x200 ≤ n ∧ n < 0x2C0 then loadAt (n - 0x200)
  else if 0x300 ≤ n ∧ n < 0x340 then groupAt (n - 0x300)
  else if 0x400 ≤ n ∧ n < 0x408 then globalAt (n - 0x400)
  else if 0x800 ≤ n ∧ n < 0x900 then .view (n - 0x800)
  else .undefined

/-- A byte of a working-configuration region, which reads 00h while the configuration is being loaded (R176, R183). -/
def Location.inConfiguration : Location → Bool
  | .chan _ _ | .load _ _ | .slot _ _ | .stagger _ | .memberCount _ | .spacing | .maskLow | .maskHigh | .fullLow | .fullHigh
  | .reducedLow | .reducedHigh | .overtake => true
  | .undefined | .info _ | .wrej | .view _ => false

/-- A byte no write reaches (R177 to R181). -/
def Location.readOnly : Location → Bool
  | .info _ | .view _ | .memberCount _ | .fullLow | .fullHigh | .reducedLow | .reducedHigh | .overtake => true
  | .chan _ f => f = .group ∨ f = .rank
  | .load _ f => f = .claimLow ∨ f = .claimHigh
  | .undefined | .wrej | .slot _ _ | .stagger _ | .spacing | .maskLow | .maskHigh => false

def activeByte : Option SlotId → Byte
  | none => 0 | some .a => 1 | some .b => 2

def resetCauseByte : ResetCause → Byte
  | .powerOn => 1 | .pin => 2

/-- The bytes of the information region (R177). -/
def State.infoByte (s : State) : Nat → Byte
  | 0x00 => Config.partCode
  | 0x01 => Config.revision
  | 0x02 => 8
  | 0x03 => 4
  | 0x04 => 12
  | 0x05 => BitVec.ofNat 8 Config.fifoDepth
  | 0x06 => activeByte s.shown.active
  | 0x07 => boolByte s.shown.validA
  | 0x08 => lowByte s.shown.generationA.toNat
  | 0x09 => highByte s.shown.generationA.toNat
  | 0x0A => boolByte s.shown.validB
  | 0x0B => lowByte s.shown.generationB.toNat
  | 0x0C => highByte s.shown.generationB.toNat
  | 0x0D => resetCauseByte s.resetCause
  | 0x0E => BitVec.ofNat 8 (s.stby.filtered.toNat + 2 * s.lowsup.filtered.toNat)
  | 0x11 => lowByte s.rejIndex.toNat
  | 0x12 => highByte s.rejIndex.toNat
  | 0x13 => reasonByte s.rejReason
  | _ => 0

/-- The bytes of a channel record (R178). -/
def Image.chanByte (img : Image) (c : Chan) : ChanField → Byte
  | .enabled => boolByte (img.channels[c]).enabled
  | .claim => (img.channels[c]).claim
  | .rampTimeout => (img.channels[c]).rampTimeout
  | .dischargeTime => (img.channels[c]).dischargeTime
  | .debounce => (img.channels[c]).debounce
  | .detect => detectByte (img.channels[c]).detect
  | .polarity => polarityByte (img.channels[c]).polarity
  | .group => numberByte (img.groupOf c)
  | .rank => match img.rankOf c with
    | some r => BitVec.ofNat 8 r
    | none => 0xFF

/-- The flags byte of a load record (R179). -/
def LoadConfig.flagsByte (r : LoadConfig) : Byte :=
  BitVec.ofNat 8 (r.bootOn.toNat + 2 * r.requeueAfterShed.toNat + 4 * r.keepInStandby.toNat + 8 * r.resumeAfterStandby.toNat)

/-- The bytes of a load record; the claim of an ABSORBED or VOID load is 0, since it has no channels (R1, R179). -/
def Image.loadByte (img : Image) (l : Load) : LoadField → Byte
  | .priority => BitVec.ofNat 8 (img.loads[l]).priority.val
  | .parent => numberByte (img.loads[l]).parent
  | .retryLimit => BitVec.ofNat 8 (img.loads[l]).retryLimit.val
  | .coolDownBase => (img.loads[l]).coolDownBase
  | .stableTime => (img.loads[l]).stableTime
  | .flags => (img.loads[l]).flagsByte
  | .claimLow => lowByte (img.claimOf l)
  | .claimHigh => highByte (img.claimOf l)

/-- Queue entry i of the view area, byte j of four (R185). -/
def Snapshot.queueByte (v : Snapshot) (i j : Nat) : Byte :=
  match v.queue[i]? with
  | none => 0
  | some e => match j with
    | 0 => BitVec.ofNat 8 e.load.val
    | 1 => BitVec.ofNat 8 e.priority.val
    | 2 => originByte e.origin
    | _ => BitVec.ofNat 8 e.overtaken

/-- Holder entry i of the view area, byte j of three (R185). -/
def Snapshot.holderByte (v : Snapshot) (i j : Nat) : Byte :=
  match v.holders[i]? with
  | none => 0
  | some h => match j with
    | 0 => BitVec.ofNat 8 h.load.val
    | 1 => lowByte h.amount
    | _ => highByte h.amount

/-- Load n of the view area, byte j of three (R185). -/
def Snapshot.loadByte (v : Snapshot) (n j : Nat) : Byte :=
  match v.loads[n]? with
  | none => 0
  | some (st, attempts) => match j with
    | 0 => loadStateByte st
    | 1 => afterByte st
    | _ => BitVec.ofNat 8 attempts

/-- The lines byte of a channel (R185). -/
def ChannelView.linesByte (c : ChannelView) : Byte :=
  BitVec.ofNat 8 (c.enAsserted.toNat + 2 * c.pg.toNat + 4 * c.flt.toNat + 8 * c.present.toNat)

/-- Channel n of the view area, byte j of four (R185). -/
def Snapshot.chanByte (v : Snapshot) (n j : Nat) : Byte :=
  match v.chans[n]? with
  | none => 0
  | some c => match j with
    | 0 => chanStateByte c.state
    | 1 => lastFaultByte c.lastFault
    | 2 => boolByte c.stuck
    | _ => c.linesByte

/-- Resume entry i of the view area (R185). -/
def Snapshot.resumeByte (v : Snapshot) (i : Nat) : Byte :=
  match v.resume[i]? with
  | none => 0
  | some l => BitVec.ofNat 8 l.val

/-- The bytes of the view area by their offset from 0800h (R185). -/
def Snapshot.byte (v : Snapshot) (n : Nat) : Byte :=
  if n = 0 then lowByte v.time.toNat
  else if n = 1 then highByte v.time.toNat
  else if n = 2 then BitVec.ofNat 8 (modeCode v.mode)
  else if n = 3 then lowByte v.ceiling
  else if n = 4 then highByte v.ceiling
  else if n = 5 then lowByte v.committed
  else if n = 6 then highByte v.committed
  else if n = 7 then lowByte v.headroom
  else if n = 8 then highByte v.headroom
  else if n = 9 then BitVec.ofNat 8 v.queue.length
  else if 0x10 ≤ n ∧ n < 0x40 then v.queueByte ((n - 0x10) / 4) ((n - 0x10) % 4)
  else if n = 0x40 then BitVec.ofNat 8 v.holders.length
  else if 0x41 ≤ n ∧ n < 0x65 then v.holderByte ((n - 0x41) / 3) ((n - 0x41) % 3)
  else if 0x70 ≤ n ∧ n < 0x94 then v.loadByte ((n - 0x70) / 3) ((n - 0x70) % 3)
  else if 0xA0 ≤ n ∧ n < 0xC0 then v.chanByte ((n - 0xA0) / 4) ((n - 0xA0) % 4)
  else if n = 0xC0 then BitVec.ofNat 8 v.resume.length
  else if 0xC1 ≤ n ∧ n < 0xCD then v.resumeByte (n - 0xC1)
  else 0

/-- A byte of the view area: 00h until a SNAPSHOT has filled it (R185). -/
def State.viewByte (s : State) (n : Nat) : Byte :=
  match s.view with
  | none => 0
  | some v => v.byte n

/-- The byte at a location (R176 to R180, R185), whether or not the configuration is being loaded. -/
def State.locationByte (s : State) : Location → Byte
  | .undefined => 0
  | .info n => s.infoByte n
  | .wrej => boolByte s.wrej
  | .chan c f => s.config.chanByte c f
  | .load l f => s.config.loadByte l f
  | .slot g k => numberByte ((s.config.groups[g]).members[k.val]?)
  | .stagger g => (s.config.groups[g]).stagger
  | .memberCount g => BitVec.ofNat 8 (s.config.groups[g]).members.length
  | .spacing => s.config.spacing
  | .maskLow => s.config.mask.setWidth 8
  | .maskHigh => (s.config.mask >>> 8).setWidth 8
  | .fullLow => lowByte s.config.full
  | .fullHigh => highByte s.config.full
  | .reducedLow => lowByte s.config.reduced
  | .reducedHigh => highByte s.config.reduced
  | .overtake => BitVec.ofNat 8 s.config.overtake
  | .view n => s.viewByte n

/-- The byte DATA reads at an index: the working configuration reads 00h while it is being loaded (R175, R176, R183). -/
def State.dataByte (s : State) (index : Word16) : Byte :=
  if s.loading && (locate index).inConfiguration then 0 else s.locationByte (locate index)

/-- The value each register drives in a read (R171). -/
def State.readRegister (s : State) : Register → Byte
  | .status => s.statusByte
  | .control => s.controlByte
  | .cmd => s.cmd
  | .arg0 => s.args[0]
  | .arg1 => s.args[1]
  | .arg2 => s.args[2]
  | .arg3 => s.args[3]
  | .result => resultByte s.result
  | .resultSeq => s.resultSeq
  | .indexLo => lowByte s.index.toNat
  | .indexHi => highByte s.index.toNat
  | .data => s.dataByte s.index
  | .notice => s.noticeByte
  | .noticeLevel => BitVec.ofNat 8 s.fifo.length
  | .clockLo => lowByte s.clock.toNat
  | .clockHi => s.clockLatch

end Sys2Proof.Machine
end

