-- ==== Sys2Proof/WellFormed.lean ====
section
/-! DEFINITION. Which commands are well formed: what an operand must be for the row of the table to be the one meant. -/

namespace Sys2Proof

/-- The eleven command codes (R174). -/
def commandCodes : List Byte := [0x01, 0x02, 0x03, 0x04, 0x10, 0x11, 0x12, 0x20, 0x30, 0x31, 0x32]

/-- The refusals that a REFUSED notice carries (R160). -/
def ResultCode.refusedDetail : ResultCode → Bool
  | .disabled | .oversize | .locked | .halted => true
  | .done | .accepted | .already | .unknown | .badTarget | .member | .empty | .state | .range | .genLimit | .storeFault
  | .none => false

/-- A notice that a block may hand over: OVERFLOW is made by the notice unit alone, and REFUSED carries one of four codes
(R160). -/
def Notice.wellFormed : Notice → Bool
  | .overflow _ => false
  | .refused _ code => code.refusedDetail
  | .granted _ _ | .loadUp _ | .loadDown _ _ | .fault _ _ | .shed _ | .pgStuck _ | .strayPg _ | .attach _ | .detach _
  | .mode _ | .boot _ => true

/-- UNKNOWN carries a code that is no command (R149); HALT_REQUEST and NIE_DIE_WRITE are told apart by bit 2 of CONTROL
(R173); STATUS_OVERRUN_CLEAR has bit 4 at 1 (R172); REGISTER_WRITE names a register without behaviour of its own, or STATUS with
bit 4 at 0, which changes nothing (R171, R172); NOTICE_HANDOVER carries a notice a block may hand over (R160). Every other
command is well formed. -/
def Instr.wellFormed : Instr → Bool
  | .unknown code => !commandCodes.contains code
  | .haltRequest v => v.getLsbD 2
  | .nieDieWrite v => !v.getLsbD 2
  | .statusOverrunClear v => v.getLsbD 4
  | .registerWrite r v => r.plainWrite || (r == .status && !v.getLsbD 4)
  | .noticeHandover n => n.wellFormed
  | .request | .release | .clear | .declareOff | .setBudget | .setOvertake | .resume | .snapshot | .saveProfile
  | .eraseProfiles | .revert | .saveProfileCompletion _ | .eraseProfilesCompletion | .revertCompletion | .resultRead
  | .dataRead | .dataWrite _ | .noticeRead | .noticeCursorWrite _ | .clockLoRead | .clockTick | .powerOnReset _
  | .pinReset _ | .resetRelease | .bootLoadEnd | .bootRequest _ | .pgLineChange _ _ | .fltNLineChange _ _
  | .detLineChange _ _ | .stbyLineChange _ | .lowsupLineChange _ | .pgRise _ | .pgFall _ | .fltNAsserted _
  | .fltNDeasserted _ | .rampTimerExpiry _ | .dischargeTimerExpiry _ | .startRamp _ | .waitTurn _ | .fall _
  | .cancelTurn _ | .channelOn _ | .fallComplete _ | .staggerTimerExpiry _ | .faultReport _ _ | .grantHandover _
  | .orderlyDescentOrder _ | .tripOrder _ | .returnReport _ | .cancelDrain _ | .loadUp _ | .descentEnded _
  | .drainEnded _ | .grantPass | .coolDownExpiry _ | .stableTimerExpiry _ | .lowsupFilterChange _ | .standbyEvent
  | .wakeEvent | .spacingTimerExpiry | .detFilterChange _ _ | .debounceTimerExpiry _ | .autoRequest _
  | .autoRelease _ | .powerLoss _ => true

end Sys2Proof
end

