-- ==== Sys2Proof/Machine/Ops.lean ====
section
/-! DEFINITION. The operations that the commands share: handing over notices, moving loads between their states, judging requests
and releases, grant passes, trips, shedding, the standby selection, HALT, and the steps of a channel. -/

namespace Sys2Proof.Machine

/-! ## Writing the tables -/

/-- A unit sends an event to another (R59, R68, R136, R191; log 2). -/
def State.post (s : State) (i : Instr) : State := { s with posted := s.posted ++ [i] }

/-- Several events, in the order given. -/
def State.postAll (s : State) (is : List Instr) : State := { s with posted := s.posted ++ is }

/-- The load that a request or a release of the detect unit names; none for every other event. -/
def detectLoad : Instr → Option Load
  | .autoRequest l | .autoRelease l => some l
  | _ => none

/-- A request or a release of the detect unit (R136, R137). -/
def fromDetect (i : Instr) : Bool := (detectLoad i).isSome

/-- The detect unit hands over a request or a release (R136, R137; log 27). -/
def State.ask (s : State) (i : Instr) (source : DetectSource) : State := { s.post i with sources := s.sources ++ [source] }

/-- The receiver takes an event: it is no longer in flight, nor is what made it (log 2). -/
def State.consume (s : State) (i : Instr) : State :=
  { s with
    posted := s.posted.erase i
    sources := if fromDetect i then s.sources.eraseIdx ((s.posted.takeWhile (· != i)).countP fromDetect) else s.sources }

def State.setLoad (s : State) (l : Load) (r : LoadRun) : State := { s with loads := s.loads.set l r }
def State.setChan (s : State) (c : Chan) (x : Channel) : State := { s with chans := s.chans.set c x }
def State.setRecord (s : State) (l : Load) (r : Option SeqRecord) : State := { s with seq := s.seq.set l r }

/-! ## Notices -/

/-- The mask enables the kind; OVERFLOW has no enable (R161, R180). -/
def kindEnabled (mask : BitVec 12) (n : Notice) : Bool :=
  match n with
  | .overflow _ => true
  | _ => mask.getLsbD (kindCode n - 1)

/-- The FIFO after a notice that the mask enables (R162). The last row of R162 finds an open OVERFLOW record at the tail. -/
def storeNotice (n : Notice) (now : Word16) (fifo : List Record) : List Record :=
  if fifo.length ≤ Config.fifoOrdinary then fifo ++ [{ notice := n, time := now }]
  else match fifo.getLast? with
    | some { notice := .overflow k, time := t } =>
      fifo.dropLast ++ [{ notice := .overflow (min (k + 1) Config.maxDropped), time := t }]
    | _ => if fifo.length < Config.fifoDepth then fifo ++ [{ notice := .overflow 1, time := now }] else fifo

/-- A block hands over a notice and the notice unit takes it, under the mask and the clock of the hand-over (R159, R161,
R162). DEDUCED (log 7): the hand-over is taken within the event that records the notice. -/
def handOver (n : Notice) (s : State) : State :=
  if kindEnabled s.config.mask n then { s with fifo := storeNotice n s.clock s.fifo } else s

/-- MODE is recorded when the reported mode is no longer the one before the event (R129). -/
def noteMode (before : Mode) (s : State) : State := if s.mode = before then s else handOver (.mode s.mode) s

/-! ## Loads -/

/-- Entry into IDLE (R6). -/
def LoadRun.intoIdle (r : LoadRun) : LoadRun :=
  { r with state := .idle, attempts := 0, cooling := .stopped, stable := .stopped }

/-- Entry into DESCENDING, which leaves UP and DRAINING behind (R6). -/
def LoadRun.intoDescending (r : LoadRun) (a : After) : LoadRun := { r with state := .descending a, stable := .stopped }

/-- Entry into ABSORBED or VOID (R5). -/
def LoadRun.withdrawn (r : LoadRun) (st : LoadState) : LoadRun :=
  { r with state := st, attempts := 0, cooling := .stopped, stable := .stopped }

def enterIdle (l : Load) (s : State) : State := s.setLoad l (s.load l).intoIdle

def enterDescending (l : Load) (a : After) (s : State) : State := s.setLoad l ((s.load l).intoDescending a)

/-- ABSORBED or VOID; the load leaves the resume list (R5). -/
def withdraw (l : Load) (st : LoadState) (s : State) : State :=
  let t := s.setLoad l ((s.load l).withdrawn st)
  { t with resume := s.resume.filter (· != l) }

/-- The load goes down in order (R73). -/
def descendInOrder (l : Load) (a : After) (s : State) : State := (enterDescending l a s).post (.orderlyDescentOrder l)

/-! ## The wait queue and the grant pass -/

/-- A new entry stands after every entry of equal or higher priority (R23). -/
def insertEntry (e : Entry) : List Entry → List Entry
  | [] => [e]
  | x :: q => if x.priority < e.priority then e :: x :: q else x :: insertEntry e q

/-- The load enters QUEUED with a new entry (R13, R15, R22). -/
def enqueue (o : Origin) (l : Load) (s : State) : State :=
  let e : Entry := { load := l, priority := (s.loadConfig l).priority, origin := o, overtaken := 0 }
  let t := s.setLoad l { s.load l with state := .queued }
  { t with queue := insertEntry e s.queue }

/-- Whether the scan may grant the entry now (R28). -/
def eligible (s : State) (e : Entry) : Bool :=
  (match (s.loadConfig e.load).parent with
    | none => true
    | some p => (s.load p).state == .up)
  && (!s.standbyFacet || (s.loadConfig e.load).keepInStandby)
  && decide (s.config.claimOf e.load ≤ s.ceiling)

/-- What a grant does beside removing the entry, which the scan does (R36). -/
def grant (e : Entry) (s : State) : State :=
  let s : State := { s with holders := s.holders ++ [{ load := e.load, amount := s.config.claimOf e.load }] }
  let s := s.setLoad e.load { s.load e.load with state := .rising }
  let s := handOver (.granted e.load e.origin) s
  s.post (.grantHandover e.load)

/-- The scan over the entries from one of them to the tail (R33): the entries that stay, with the counts R35 gives, whether an
entry was granted, and the state the grants leave. A granted claim lowers the headroom, which is the running headroom. -/
def scan : List Entry → State → List Entry × Bool × State
  | [], s => ([], false, s)
  | e :: q, s =>
    if !eligible s e then
      let r := scan q s
      (e :: r.1, r.2.1, r.2.2)
    else if s.config.claimOf e.load ≤ s.headroom then
      let r := scan q (grant e s)
      (r.1, true, r.2.2)
    else if e.overtaken < s.config.overtake then
      let r := scan q s
      ((if r.2.1 then { e with overtaken := e.overtaken + 1 } else e) :: r.1, r.2.1, r.2.2)
    else (e :: q, false, s)

/-- A started grant pass, which runs unless the arbiter is HALTED or the account is over (R31, R32). -/
def grantPass (s : State) : State :=
  if s.halted || s.over then s
  else
    let r := scan s.queue s
    { r.2.2 with queue := r.1 }

/-! ## Choosing the least important load -/

/-- The load of lowest priority, and among equals the one standing latest (R103, R117). -/
def lowestYoungest (priority : Load → Fin 8) : List Load → Option Load
  | [] => none
  | l :: ls =>
    match lowestYoungest priority ls with
    | none => some l
    | some m => if priority l < priority m then some l else some m

/-! ## The standby selection -/

/-- The candidates of a selection, oldest first (R117). -/
def State.standbyCandidates (s : State) : List Load :=
  (s.holders.map (·.load)).filter fun l =>
    ((s.load l).state == .rising || (s.load l).state == .up) && !(s.loadConfig l).keepInStandby
      && (s.holdingDescendants l).isEmpty

/-- What is done with the chosen load (R118). -/
def lowerLoad (l : Load) (s : State) : State :=
  let t := descendInOrder l .idle s
  { t with
    resume := if (s.loadConfig l).resumeAfterStandby && !s.resume.contains l then s.resume ++ [l] else s.resume
    descent := .lowering l }

/-- A selection (R117). -/
def select (s : State) : State :=
  match lowestYoungest (fun l => (s.loadConfig l).priority) s.standbyCandidates with
  | none => { s with descent := .seeking }
  | some l => lowerLoad l s

/-- The selections of R120. -/
def selectIfSeeking (s : State) : State := if s.descent = .seeking then select s else s

/-! ## Requests and releases -/

/-- The judgement of a request, less the grant pass that may follow (R12 to R14). -/
def judge (o : Origin) (l : Load) (s : State) : ResultCode × State :=
  if s.halted then (.halted, s)
  else match (s.load l).state with
    | .idle =>
      if !s.config.allEnabled l then (.disabled, s)
      else if s.config.full < s.config.claimOf l then (.oversize, s)
      else (.accepted, enqueue o l s)
    | .queued | .rising | .up => (.already, s)
    | .draining => (.accepted, (s.setLoad l { s.load l with state := .up }).post (.cancelDrain l))
    | .descending .idle => (.accepted, s.setLoad l { s.load l with state := .descending .requeue })
    | .descending .requeue | .descending .retry | .cooling => (.already, s)
    | .locked => (.locked, s)
    | .absorbed => (.member, s)
    | .void => (.empty, s)

/-- A request as one event: an enqueue and a return to UP start a grant pass, and a return to UP a selection while the standby
descent is seeking (R13, R14, R30, R120). -/
def request (o : Origin) (l : Load) (s : State) : ResultCode × State :=
  let j := judge o l s
  match j.1, (s.load l).state with
  | .accepted, .idle => (j.1, grantPass j.2)
  | .accepted, .draining => (j.1, selectIfSeeking (grantPass j.2))
  | _, _ => j

/-- A refusal of a request of origin AUTO, BOOT or WAKE records REFUSED (R136, R191, R124; MEMBER and EMPTY, which these
sources never meet, record nothing: log 18). -/
def noteRefusal (l : Load) (r : ResultCode × State) : State :=
  if r.1.refusedDetail then handOver (.refused l r.1) r.2 else r.2

/-- A descendant's part in a drain (R75). -/
def drainDescendant (s : State) (x : Load) : State :=
  match (s.load x).state with
  | .rising | .up => descendInOrder x .requeue s
  | .draining => descendInOrder x .idle s
  | .idle | .queued | .descending _ | .cooling | .locked | .absorbed | .void => s

/-- The load sequencer moves the record to DRAIN within the release. The order overtakes a cancel drain still in flight, whose
effect it undoes, and a "drain ended" of an earlier drain still in flight has been ignored by the UP load (R75, R77, R80; log
20). -/
def recordToDrain (l : Load) (s : State) : State :=
  let s : State := { s with posted := s.posted.filter fun i => i != .cancelDrain l && i != .drainEnded l }
  match s.record l with
  | none => s
  | some r => s.setRecord l (some { r with phase := .drain, drainReported := false })

/-- A release puts the load into DRAINING (R16, R75). -/
def beginDrain (l : Load) (s : State) : State :=
  recordToDrain l
    ((s.holdingDescendants l).foldl drainDescendant (s.setLoad l { s.load l with state := .draining }))

/-- The effect of a release by the load's state, less its part in the resume list (R16). -/
def releaseByState (l : Load) (s : State) : ResultCode × State :=
  match (s.load l).state with
  | .idle | .draining | .descending .idle => (.already, s)
  | .queued => (.accepted, grantPass (enterIdle l { s with queue := s.queue.filter fun e => e.load != l }))
  | .rising => (.accepted, descendInOrder l .idle s)
  | .up => (.accepted, if (s.holdingDescendants l).isEmpty then descendInOrder l .idle s else beginDrain l s)
  | .descending .requeue | .descending .retry => (.accepted, s.setLoad l { s.load l with state := .descending .idle })
  | .cooling => (.accepted, enterIdle l s)
  | .locked => (.locked, s)
  | .absorbed => (.member, s)
  | .void => (.empty, s)

/-- A release as one event; it also takes the load off the resume list (R16, R17). -/
def releaseLoad (l : Load) (s : State) : ResultCode × State :=
  let r := releaseByState l { s with resume := s.resume.filter (· != l) }
  (if r.1 = .already ∧ s.resume.contains l then .accepted else r.1, r.2)

/-! ## Trips and shedding -/

/-- A descendant's part in a trip (R78). -/
def tripDescendant (s : State) (x : Load) : State :=
  let t := match (s.load x).state with
    | .rising | .up => enterDescending x .requeue s
    | .draining => enterDescending x .idle s
    | .idle | .queued | .descending _ | .cooling | .locked | .absorbed | .void => s
  t.post (.tripOrder x)

/-- The arbiter trips a load, which descends with the given after value, and its reservation-holding descendants (R78). -/
def trip (l : Load) (a : After) (s : State) : State :=
  (s.holdingDescendants l).foldl tripDescendant ((enterDescending l a s).post (.tripOrder l))

/-- after of a shed victim (R104). -/
def shedAfter (s : State) (v : Load) : After :=
  if (s.load v).state = .draining then .idle else if (s.loadConfig v).requeueAfterShed then .requeue else .idle

/-- A victim is shed (R104). -/
def shed (v : Load) (s : State) : State := trip v (shedAfter s v) (handOver (.shed v) s)

/-- The victim that selection chooses next (R103). -/
def State.victim (s : State) : Option Load :=
  lowestYoungest (fun l => (s.loadConfig l).priority) (s.standingHolders.map (·.load))

/-- Victim selection against the ceiling in force (R103); at most `fuel` victims, and twelve are enough. -/
def shedDown : Nat → State → State
  | 0, s => s
  | fuel + 1, s =>
    if s.standingSum ≤ s.ceiling then s
    else match s.victim with
      | none => s
      | some v => shedDown fuel (shed v s)

/-- The arbiter recomputes the ceiling (R8, R101, R106, R107), with MODE in its place (R130). -/
def recomputeCeiling (s : State) : State :=
  let t : State := { s with ceiling := s.ceilingNow }
  if s.ceilingNow = s.ceiling then s
  else if s.ceilingNow < s.ceiling then noteMode s.mode (shedDown 12 t)
  else grantPass (noteMode s.mode t)

/-! ## HALT -/

/-- What a load becomes at HALT (R126). -/
def LoadRun.halted (r : LoadRun) : LoadRun :=
  match r.state with
  | .rising | .up | .draining | .descending _ => r.intoDescending .idle
  | .queued | .cooling => r.intoIdle
  | .idle | .locked | .absorbed | .void => r

/-- Whether a record has a trip order still to come: one in IMMEDIATE has been ordered down already (R126). -/
def tripPending : Option SeqRecord → Bool
  | some r => r.phase != .immediate
  | none => true

/-- Whether HALT sends a holder a trip order: every holder in RISING, UP or DRAINING, and one in DESCENDING unless its record is in
IMMEDIATE already (R126). A record that stands while the load's grant is still on its way belongs to the descent before (R68). -/
def haltTrips (s : State) (l : Load) : Bool :=
  (s.load l).state.standing || s.posted.contains (.grantHandover l) || tripPending (s.record l)

/-- A HALT request at the arbiter (R125, R126); during the boot load it records no MODE (R129). -/
def halt (s : State) : State :=
  if s.halted then s
  else
    let orders := ((s.holders.map (·.load)).filter (haltTrips s)).map Instr.tripOrder
    let t : State := { s with
      loads := Vector.ofFn fun l => (s.load l).halted
      queue := []
      resume := []
      descent := .inactive
      halted := true }
    let t := t.postAll orders
    if s.booting then t else handOver (.mode .halted) t

/-! ## Steps of a channel -/

/-- A channel fault (R54). -/
def channelFault (c : Chan) (cause : FaultCause) (s : State) : State :=
  let s := s.setChan c { s.chan c with
    lastFault := some cause
    state := .fall
    ramp := .stopped
    discharge := .running (s.chanConfig c).dischargeTime.toNat }
  (handOver (.fault c cause) s).post (.faultReport c cause)

/-- A channel begins its fall at an order (R55). -/
def beginFall (c : Chan) (s : State) : State :=
  s.setChan c { s.chan c with
    state := .fall
    ramp := .stopped
    discharge := .running (s.chanConfig c).dischargeTime.toNat }

/-- FALL ends (R55). -/
def endFall (c : Chan) (s : State) : State :=
  (s.setChan c { s.chan c with state := .off, discharge := .stopped, stuck := false, strayNoted := false }).post
    (.fallComplete c)

/-- A channel enters ON (R51). -/
def enterOn (c : Chan) (s : State) : State :=
  (s.setChan c { s.chan c with state := .on, ramp := .stopped }).post (.channelOn c)

/-- A PG rise in OFF or WAIT_TURN (R48, R49). -/
def noteStray (c : Chan) (s : State) : State :=
  if (s.chanConfig c).enabled && !(s.chan c).strayNoted then
    handOver (.strayPg c) (s.setChan c { s.chan c with strayNoted := true })
  else s

/-! ## Filters -/

/-- Whether the filter of a line has a change to a level to make: the line stands at that level and the filtered level does not. A
line that has returned has none (R42, R133; log 5). -/
def filterTakes (line filtered level : Bool) : Bool := line == level && filtered != level

/-- Whether the 2 ms filter has a change to a level to make: the line has held that level for its 2 ms (R99, R113; log 6). -/
def SlowLine.takes (x : SlowLine) (level : Bool) : Bool := x.filtered != level && x.due.head? == some level

/-- The filtered level takes the level that is due. -/
def SlowLine.took (x : SlowLine) (level : Bool) : SlowLine := { x with filtered := level, due := x.due.tail }

/-! ## Presence -/

/-- An attach or a detach, by the detect mode and the standing of the channel (R135). -/
def reportPresence (c : Chan) (present : Bool) (s : State) : State :=
  match (s.chanConfig c).detect with
  | .manual => s
  | .notify | .auto =>
    let s := handOver (if present then .attach c else .detach c) s
    if s.config.acting c then
      let l := s.config.servedLoad c
      s.ask (if present then .autoRequest l else .autoRelease l) (.change c)
    else s

/-- The debounced state takes the filtered level, and the debounce timer is stopped (R134). -/
def settlePresence (c : Chan) (s : State) : State :=
  let ch := s.chan c
  let t := s.setChan c { ch with present := ch.det, debounce := .stopped }
  if ch.det = ch.present then t else reportPresence c ch.det t

/-- The detect unit after the filtered DET has changed: a debounce starts, or the excursion is discarded (R134). -/
def debounce (c : Chan) (s : State) : State :=
  let ch := s.chan c
  if ch.det = ch.present then s.setChan c { ch with debounce := .stopped }
  else if (s.chanConfig c).debounce = 0 then settlePresence c s
  else s.setChan c { ch with debounce := .running (s.chanConfig c).debounce.toNat }

/-- The detect unit asks again for a channel, if it is acting and present (R139). -/
def represent (source : DetectSource) (s : State) (c : Chan) : State :=
  if s.config.acting c && (s.chan c).present then s.ask (.autoRequest (s.config.servedLoad c)) source else s

/-- The channel that stands for a load's presence: its one channel, or the lead (R92, R139). -/
def representLoad (l : Load) (s : State) : State :=
  match (s.config.channelsOf l).head? with
  | none => s
  | some c => represent .asked s c

/-! ## Events of the units -/

/-- An event that a unit takes: it leaves the events in flight, and it acts once the boot load has ended (R21, R42, R61, R142;
log 13). -/
def takeEvent (i : Instr) (act : State → State) (s : State) : Host.Outcome State Fault Refusal :=
  let t := s.consume i
  .next (if t.running then act t else t)

/-- A bus strobe: ignored while reset is held or the part has no power (R171, R188). -/
def strobe (act : State → State) (s : State) : Host.Outcome State Fault Refusal :=
  .next (if s.released then act s else s)

end Sys2Proof.Machine
end

