-- ==== Sys2Proof/Machine/Lines.lean ====
section
/-! DEFINITION. Changes of the input lines, which start or discard a filter's qualification (R42, R99, R113, R133), and the detect
unit's filter change and debounce expiry (R134). A line keeps its level through reset; the filters run from the end of the
boot load. -/

namespace Sys2Proof.Machine

/-- PG_LINE_CHANGE: the 100 us qualification runs while the line differs from the filtered level (R42). -/
def execPgLineChange (c : Chan) (high : Bool) (s : State) : Host.Outcome State Fault Refusal :=
  .next (s.setChan c { s.chan c with pgLine := high })

/-- FLT_N_LINE_CHANGE (R42). -/
def execFltNLineChange (c : Chan) (asserted : Bool) (s : State) : Host.Outcome State Fault Refusal :=
  .next (s.setChan c { s.chan c with fltLine := asserted })

/-- DET_LINE_CHANGE (R133). -/
def execDetLineChange (c : Chan) (high : Bool) (s : State) : Host.Outcome State Fault Refusal :=
  .next (s.setChan c { s.chan c with detLine := high })

/-- The level the filter stands at once it has taken the levels that are due. -/
def SlowLine.settled (x : SlowLine) : Bool := x.due.getLast?.getD x.filtered

/-- A 2 ms filter after its line has changed: a new level starts its 2 ms afresh, and a return within them discards the change
(R99, R113). A level that has held for its 2 ms stays due. The filter does not run before the end of the boot load (R100, R132). -/
def SlowLine.change (running asserted : Bool) (x : SlowLine) : SlowLine :=
  if x.line = asserted then x
  else { x with
    line := asserted
    qualify := if running && asserted != x.settled then .running Config.slowFilterMs else .stopped }

/-- STBY_LINE_CHANGE (R113). -/
def execStbyLineChange (asserted : Bool) (s : State) : Host.Outcome State Fault Refusal :=
  .next { s with stby := s.stby.change s.running asserted }

/-- LOWSUP_LINE_CHANGE (R99). -/
def execLowsupLineChange (asserted : Bool) (s : State) : Host.Outcome State Fault Refusal :=
  .next { s with lowsup := s.lowsup.change s.running asserted }

/-- A change of the filtered DET (R133, R134). -/
def takeDetFilter (c : Chan) (high : Bool) (s : State) : State :=
  if filterTakes (s.chan c).detLine (s.chan c).det high then debounce c (s.setChan c { s.chan c with det := high }) else s

/-- DET_FILTER_CHANGE. -/
def execDetFilterChange (c : Chan) (high : Bool) (s : State) : Host.Outcome State Fault Refusal :=
  takeEvent (.detFilterChange c high) (takeDetFilter c high) s

/-- Expiry of a debounce timer (R134); a stopped timer does not expire (R141). -/
def takeDebounceExpiry (c : Chan) (s : State) : State :=
  match (s.chan c).debounce with
  | .running _ => settlePresence c s
  | .stopped => s

/-- DEBOUNCE_TIMER_EXPIRY. -/
def execDebounceTimerExpiry (c : Chan) (s : State) : Host.Outcome State Fault Refusal :=
  takeEvent (.debounceTimerExpiry c) (takeDebounceExpiry c) s

end Sys2Proof.Machine
end

