-- ==== Sys2Proof/Machine/Arbiter.lean ====
section
/-! DEFINITION. What the budget arbiter does at reports, expiries, grant passes, requests and releases that do not come from the
mailbox, and changes of LOWSUP (spec/01, 02, 05 and 06). -/

namespace Sys2Proof.Machine

/-- "load UP" (R72); the stable timer starts with stable time × 100 ms (R90). -/
def takeLoadUp (l : Load) (s : State) : State :=
  match (s.load l).state with
  | .rising =>
    let t := handOver (.loadUp l) (s.setLoad l { s.load l with
      state := .up
      stable := .running ((s.loadConfig l).stableTime.toNat * 100) })
    grantPass t
  | .idle | .queued | .up | .draining | .descending _ | .cooling | .locked | .absorbed | .void => s

/-- Cool-down of attempt k in ms (R88). -/
def coolDown (base : Byte) (k : Nat) : Nat := base.toNat * 10 * 2 ^ (min k 4 - 1)

/-- The state LOAD_DOWN names and the load enters, by its after value and its attempts (R19, R87). -/
def afterDescent (a : After) (attempts : Nat) (limit : Fin 8) : DownState :=
  match a with
  | .idle => .idle
  | .requeue => .queued
  | .retry => if attempts < limit.val then .cooling else .locked

/-- The load enters the state its descent leads to (R6, R15, R18, R19, R87). -/
def settleLoad (l : Load) (next : DownState) (s : State) : State :=
  let r := s.load l
  match next with
  | .idle => enterIdle l s
  | .queued => enqueue .requeue l s
  | .cooling =>
    s.setLoad l { r with
      state := .cooling
      attempts := r.attempts + 1
      cooling := .running (coolDown (s.loadConfig l).coolDownBase (r.attempts + 1)) }
  | .locked => s.setLoad l { r with state := .locked }

/-- The standby descent after the end of a load's descent (R119, R120). -/
def continueDescent (l : Load) (s : State) : State :=
  match s.descent with
  | .lowering current =>
    if current = l then
      if s.config.spacing = 0 then select s else { s with descent := .spacing s.config.spacing.toNat }
    else s
  | .seeking => select s
  | .inactive | .spacing _ => s

/-- "descent ended" for a DESCENDING load (R18), with MODE in its place when the over condition clears (R107, R130). -/
def takeDescentEnded (l : Load) (s : State) : State :=
  match (s.load l).state with
  | .descending a =>
    let next := afterDescent a (s.load l).attempts (s.loadConfig l).retryLimit
    let t : State := { s with holders := s.holders.filter fun h => h.load != l }
    let t := handOver (.loadDown l next) (t.post (.returnReport l))
    continueDescent l (grantPass (noteMode s.mode (settleLoad l next t)))
  | .idle | .queued | .rising | .up | .draining | .cooling | .locked | .absorbed | .void => s

/-- "drain ended" (R77). -/
def takeDrainEnded (l : Load) (s : State) : State :=
  match (s.load l).state with
  | .draining => descendInOrder l .idle s
  | .idle | .queued | .rising | .up | .descending _ | .cooling | .locked | .absorbed | .void => s

/-- The after value a fault gives the load, by its state (R83, R84); none where no report is taken (R82). -/
def faultAfter : LoadState → Option After
  | .rising | .up | .draining | .descending .requeue | .descending .retry => some .retry
  | .descending .idle => some .idle
  | .idle | .queued | .cooling | .locked | .absorbed | .void => none

/-- A fault report, applied to the load the channel serves; the cause does not change the consequence (R82 to R84). -/
def takeFaultReport (c : Chan) (s : State) : State :=
  let l := s.config.servedLoad c
  match faultAfter (s.load l).state with
  | some a => trip l a s
  | none => s

/-- GRANT_PASS: a started grant pass (R31 to R37). -/
def execGrantPass (s : State) : Host.Outcome State Fault Refusal := takeEvent .grantPass grantPass s

/-- Expiry of a cooling timer (R15, R89); a stopped timer does not expire (R20). -/
def takeCoolDownExpiry (l : Load) (s : State) : State :=
  match (s.load l).state, (s.load l).cooling with
  | .cooling, .running _ =>
    grantPass (enqueue .retry l (s.setLoad l { s.load l with cooling := .stopped }))
  | _, _ => s

/-- COOL_DOWN_EXPIRY. -/
def execCoolDownExpiry (l : Load) (s : State) : Host.Outcome State Fault Refusal :=
  takeEvent (.coolDownExpiry l) (takeCoolDownExpiry l) s

/-- Expiry of a stable timer (R90); a stopped timer does not expire. -/
def takeStableExpiry (l : Load) (s : State) : State :=
  match (s.load l).stable with
  | .running _ => s.setLoad l { s.load l with attempts := 0, stable := .stopped }
  | .stopped => s

/-- STABLE_TIMER_EXPIRY. -/
def execStableTimerExpiry (l : Load) (s : State) : Host.Outcome State Fault Refusal :=
  takeEvent (.stableTimerExpiry l) (takeStableExpiry l) s

/-- A change of the filtered LOWSUP (R99, R101). -/
def takeLowsup (asserted : Bool) (s : State) : State :=
  if s.lowsup.takes asserted then recomputeCeiling { s with lowsup := s.lowsup.took asserted } else s

/-- LOWSUP_FILTER_CHANGE. -/
def execLowsupFilterChange (asserted : Bool) (s : State) : Host.Outcome State Fault Refusal :=
  takeEvent (.lowsupFilterChange asserted) (takeLowsup asserted) s

/-- A request of origin AUTO (R136). -/
def takeAutoRequest (l : Load) (s : State) : State := noteRefusal l (request .auto l s)

/-- A release of the detect unit; nothing is recorded for its result (R137). -/
def takeAutoRelease (l : Load) (s : State) : State := (releaseLoad l s).2

/-- A request of origin BOOT (R41, R191). -/
def takeBootRequest (l : Load) (s : State) : State := noteRefusal l (request .boot l s)

end Sys2Proof.Machine
end

