-- ==== Sys2Proof/Machine/Channels.lean ====
section
/-! DEFINITION. What a channel sequencer does: orders of the load sequencer, changes of the filtered PG and FLT_N, and its two
timers (spec/03_channel_sequencing.md). -/

namespace Sys2Proof.Machine

/-- Order start ramp (R50, R51). -/
def channelStart (c : Chan) (s : State) : State :=
  let ch := s.chan c
  match ch.state with
  | .off | .waitTurn =>
    if ch.flt then channelFault c .overcurrent s
    else if ch.pg then enterOn c s
    else s.setChan c { ch with state := .ramp, ramp := .running (s.chanConfig c).rampTimeout.toNat }
  | .ramp | .on | .fall => s

/-- Order wait turn (R50). -/
def channelWait (c : Chan) (s : State) : State :=
  match (s.chan c).state with
  | .off => s.setChan c { s.chan c with state := .waitTurn }
  | .waitTurn | .ramp | .on | .fall => s

/-- Order fall (R50, R55). -/
def channelFall (c : Chan) (s : State) : State :=
  match (s.chan c).state with
  | .waitTurn => s.setChan c { s.chan c with state := .off }
  | .ramp | .on => beginFall c s
  | .off | .fall => s

/-- Order cancel turn (R49, R50). -/
def channelCancel (c : Chan) (s : State) : State :=
  match (s.chan c).state with
  | .waitTurn => s.setChan c { s.chan c with state := .off }
  | .off | .ramp | .on | .fall => s

/-- The filtered PG takes a level (R42). -/
def setPg (c : Chan) (high : Bool) (s : State) : State := s.setChan c { s.chan c with pg := high }

/-- The filtered FLT_N takes a level (R42). -/
def setFlt (c : Chan) (asserted : Bool) (s : State) : State := s.setChan c { s.chan c with flt := asserted }

/-- A rise of PG (R42, R48, R49, R51, R53, R55). -/
def channelPgRise (c : Chan) (s : State) : State :=
  if !filterTakes (s.chan c).pgLine (s.chan c).pg true then s
  else
    let t := setPg c true s
    match (s.chan c).state with
    | .off | .waitTurn => noteStray c t
    | .ramp => enterOn c t
    | .on | .fall => t

/-- PG_RISE. -/
def execPgRise (c : Chan) (s : State) : Host.Outcome State Fault Refusal := takeEvent (.pgRise c) (channelPgRise c) s

/-- A fall of PG (R42, R48, R49, R51, R53, R55). -/
def channelPgFall (c : Chan) (s : State) : State :=
  if !filterTakes (s.chan c).pgLine (s.chan c).pg false then s
  else
    let t := setPg c false s
    match (s.chan c).state with
    | .on => channelFault c .pgLost t
    | .fall => if (s.chan c).discharge = .expired then endFall c t else t
    | .off | .waitTurn | .ramp => t

/-- PG_FALL. -/
def execPgFall (c : Chan) (s : State) : Host.Outcome State Fault Refusal := takeEvent (.pgFall c) (channelPgFall c) s

/-- FLT_N asserts (R42, R48, R49, R52, R53, R55). -/
def channelFltAsserted (c : Chan) (s : State) : State :=
  if !filterTakes (s.chan c).fltLine (s.chan c).flt true then s
  else
    let t := setFlt c true s
    match (s.chan c).state with
    | .ramp | .on => channelFault c .overcurrent t
    | .off | .waitTurn | .fall => t

/-- FLT_N_ASSERTED. -/
def execFltNAsserted (c : Chan) (s : State) : Host.Outcome State Fault Refusal :=
  takeEvent (.fltNAsserted c) (channelFltAsserted c) s

/-- FLT_N deasserts: the level is updated and no channel state changes (R42). -/
def channelFltDeasserted (c : Chan) (s : State) : State :=
  if filterTakes (s.chan c).fltLine (s.chan c).flt false then setFlt c false s else s

/-- FLT_N_DEASSERTED. -/
def execFltNDeasserted (c : Chan) (s : State) : Host.Outcome State Fault Refusal :=
  takeEvent (.fltNDeasserted c) (channelFltDeasserted c) s

/-- Expiry of the ramp timer (R52); a stopped timer does not expire (R60). -/
def channelRampExpiry (c : Chan) (s : State) : State :=
  match (s.chan c).state, (s.chan c).ramp with
  | .ramp, .running _ => channelFault c .rampTimeout s
  | _, _ => s

/-- RAMP_TIMER_EXPIRY. -/
def execRampTimerExpiry (c : Chan) (s : State) : Host.Outcome State Fault Refusal :=
  takeEvent (.rampTimerExpiry c) (channelRampExpiry c) s

/-- Expiry of the discharge timer (R55, R56). -/
def channelDischargeExpiry (c : Chan) (s : State) : State :=
  match (s.chan c).state, (s.chan c).discharge with
  | .fall, .running _ =>
    if (s.chan c).pg then handOver (.pgStuck c) (s.setChan c { s.chan c with discharge := .expired, stuck := true })
    else endFall c s
  | _, _ => s

/-- DISCHARGE_TIMER_EXPIRY. -/
def execDischargeTimerExpiry (c : Chan) (s : State) : Host.Outcome State Fault Refusal :=
  takeEvent (.dischargeTimerExpiry c) (channelDischargeExpiry c) s

/-- DECLARE_OFF at the named channel (R57). -/
def channelDeclareOff (c : Chan) (s : State) : ResultCode × State :=
  match (s.chan c).state, (s.chan c).stuck with
  | .fall, true => (.done, endFall c s)
  | _, _ => (.state, s)

end Sys2Proof.Machine
end

