-- ==== Sys2Proof/Machine/Sequencer.lean ====
section
/-! DEFINITION. What the load sequencer does with its records: bring-up, orderly descent, draining and trips
(spec/04_groups_and_dependencies.md). -/

namespace Sys2Proof.Machine

/-- A channel joins a set of channels. -/
def insertChan (c : Chan) (cs : List Chan) : List Chan := if cs.contains c then cs else cs ++ [c]

/-- A channel leaves a set of channels. -/
def removeChan (c : Chan) (cs : List Chan) : List Chan := cs.filter (· != c)

/-- The highest-ranked channel of a set, by the load's channels in rank order (R73, R74). -/
def highestIn (members outSet : List Chan) : Option Chan := members.reverse.find? outSet.contains

/-- The members that wait for their turn: those behind step in a bring-up (R69, R70). The load sequencer knows them from its own
record (R50; log 21). -/
def waitingMembers (members : List Chan) (r : SeqRecord) : List Chan :=
  match r.phase with
  | .rise => (members.drop (r.step + 1)).filter r.outSet.contains
  | .steady | .drain | .hold | .orderly | .immediate => []

/-- The record after the stagger timer is stopped and the waiting members are cancelled (R73 step 1, R78). -/
def SeqRecord.cancelled (r : SeqRecord) (waiting : List Chan) : SeqRecord :=
  { r with stagger := .stopped, outSet := r.outSet.filter fun c => !waiting.contains c }

/-- A new record in RISE (R68, R69). -/
def SeqRecord.fresh (members : List Chan) : SeqRecord :=
  { phase := .rise, step := 0, stagger := .stopped, outSet := members, onSet := [], stalled := false, drainReported := false }

/-- A granted load is handed over (R69). -/
def takeGrant (l : Load) (s : State) : State :=
  let members := s.config.channelsOf l
  let t := s.setRecord l (some (SeqRecord.fresh members))
  match members with
  | [] => t
  | lead :: others => t.postAll (Instr.startRamp lead :: others.map Instr.waitTurn)

/-- The member of the next rank is given start ramp (R70). -/
def startNext (l : Load) (r : SeqRecord) (s : State) : State :=
  match (s.config.channelsOf l)[r.step + 1]? with
  | none => s.setRecord l (some r)
  | some c =>
    (s.setRecord l (some { r with step := r.step + 1, outSet := insertChan c r.outSet })).post (.startRamp c)

/-- A channel ON report (R70, R71). -/
def takeChannelOn (c : Chan) (s : State) : State :=
  let l := s.config.servedLoad c
  let members := s.config.channelsOf l
  match s.record l with
  | none => s
  | some r =>
    if r.phase = .rise ∧ members[r.step]? = some c then
      let r := { r with onSet := insertChan c r.onSet }
      if members.all r.onSet.contains then (s.setRecord l (some { r with phase := .steady })).post (.loadUp l)
      else if r.stalled then s.setRecord l (some r)
      else if s.config.staggerOf l = 0 then startNext l r s
      else s.setRecord l (some { r with stagger := .running (s.config.staggerOf l) })
    else s

/-- Expiry of a stagger timer (R70); a stopped timer does not expire (R80). -/
def takeStaggerExpiry (l : Load) (s : State) : State :=
  match s.record l with
  | none => s
  | some r =>
    match r.phase, r.stagger with
    | .rise, .running _ =>
      let r := { r with stagger := .stopped }
      if r.stalled then s.setRecord l (some r) else startNext l r s
    | _, _ => s

/-- STAGGER_TIMER_EXPIRY. -/
def execStaggerTimerExpiry (l : Load) (s : State) : Host.Outcome State Fault Refusal :=
  takeEvent (.staggerTimerExpiry l) (takeStaggerExpiry l) s

/-- The record enters or goes on in ORDERLY: the highest-ranked channel of the out set falls, or the descent has ended
(R73 step 3, R74). -/
def lowerNext (l : Load) (r : SeqRecord) (s : State) : State :=
  let members := s.config.channelsOf l
  match highestIn members r.outSet with
  | none => (s.setRecord l (some { r with phase := .orderly })).post (.descentEnded l)
  | some c => (s.setRecord l (some { r with phase := .orderly, step := members.idxOf c })).post (.fall c)

/-- A fall complete report (R71, R74). -/
def takeFallComplete (c : Chan) (s : State) : State :=
  let l := s.config.servedLoad c
  match s.record l with
  | none => s
  | some r =>
    let out := removeChan c r.outSet
    match r.phase with
    | .rise =>
      s.setRecord l (some { r with outSet := out, onSet := removeChan c r.onSet, stalled := true, stagger := .stopped })
    | .steady | .drain | .hold => s.setRecord l (some { r with outSet := out })
    | .orderly =>
      if (s.config.channelsOf l)[r.step]? = some c then lowerNext l { r with outSet := out } s
      else s.setRecord l (some { r with outSet := out })
    | .immediate =>
      let t := s.setRecord l (some { r with outSet := out })
      if out.isEmpty then t.post (.descentEnded l) else t

/-- An orderly descent order (R73). -/
def takeOrderlyOrder (l : Load) (s : State) : State :=
  match s.record l with
  | none => s
  | some r =>
    let waiting := waitingMembers (s.config.channelsOf l) r
    let r := r.cancelled waiting
    let t := s.postAll (waiting.map Instr.cancelTurn)
    if (s.holdingDescendants l).isEmpty then lowerNext l r t else t.setRecord l (some { r with phase := .hold })

/-- A trip order, in any phase; a record in IMMEDIATE has nothing left to start (R78). An ORDERLY record with an empty out set has
sent its "descent ended" already, and a descent has one (R18, R74; log 32). -/
def takeTripOrder (l : Load) (s : State) : State :=
  match s.record l with
  | none => s
  | some r =>
    if r.phase = .immediate then s
    else
      let members := s.config.channelsOf l
      let waiting := waitingMembers members r
      let reported := r.phase == .orderly && r.outSet.isEmpty
      let r := { r.cancelled waiting with phase := .immediate }
      let t := (s.setRecord l (some r)).postAll (waiting.map Instr.cancelTurn)
      if reported then t
      else if r.outSet.isEmpty then t.post (.descentEnded l)
      else t.postAll ((members.filter r.outSet.contains).map Instr.fall)

/-- A record in DRAIN or HOLD is examined after a return report (R76). -/
def examineRecord (s : State) (l : Load) : State :=
  match s.record l with
  | none => s
  | some r =>
    if !(s.holdingDescendants l).isEmpty then s
    else match r.phase with
      | .drain =>
        if r.drainReported then s else (s.setRecord l (some { r with drainReported := true })).post (.drainEnded l)
      | .hold => lowerNext l r s
      | .rise | .steady | .orderly | .immediate => s

/-- A return report (R76). -/
def takeReturn (l : Load) (s : State) : State := allLoads.foldl examineRecord (s.setRecord l none)

/-- A cancel drain (R77). -/
def takeCancelDrain (l : Load) (s : State) : State :=
  match s.record l with
  | none => s
  | some r =>
    match r.phase with
    | .drain => s.setRecord l (some { r with phase := .steady, drainReported := false })
    | .rise | .steady | .hold | .orderly | .immediate => s

end Sys2Proof.Machine
end

