-- ==== Sys2Proof/Machine/Links.lean ====
section
/-! DEFINITION. The events that the units send each other, taken in the orders the manual gives (R41, R50, R68, R82, R191; log 31),
and those that a command may not overtake (log 27). -/

namespace Sys2Proof.Machine

/-! ## Links -/

/-- A sender and a receiver whose events are taken in the order in which they were sent (R41, R50, R68, R191; log 31). -/
inductive Link where
  /-- Hand-overs, orders, return reports and cancel drains of the arbiter to the load sequencer (R68). -/
  | toSequencer
  /-- "load UP", "descent ended" and "drain ended" of the load sequencer to the arbiter (R68). -/
  | toArbiter
  /-- Orders of the load sequencer to a channel (R50). -/
  | toChannel (c : Chan)
  /-- Reports of a channel to the load sequencer (R59). -/
  | fromChannel (c : Chan)
  /-- Fault reports of a channel to the arbiter (R59). -/
  | faults (c : Chan)
  /-- Requests and releases of the detect unit for a load (R136, R137). -/
  | detect (l : Load)
  /-- Boot requests of the profile store, L0 first (R191). -/
  | boot
  deriving DecidableEq, Repr

/-- The link an event goes along; none for the commands, the lines, the timers and what is taken within the event that makes it. -/
def linkOf : Instr → Option Link
  | .grantHandover _ | .orderlyDescentOrder _ | .tripOrder _ | .returnReport _ | .cancelDrain _ => some .toSequencer
  | .loadUp _ | .descentEnded _ | .drainEnded _ => some .toArbiter
  | .startRamp c | .waitTurn c | .fall c | .cancelTurn c => some (.toChannel c)
  | .channelOn c | .fallComplete c => some (.fromChannel c)
  | .faultReport c _ => some (.faults c)
  | .autoRequest l | .autoRelease l => some (.detect l)
  | .bootRequest _ => some .boot
  | .request | .release | .clear | .declareOff | .setBudget | .setOvertake | .resume | .snapshot | .saveProfile
  | .eraseProfiles | .revert | .unknown _ | .saveProfileCompletion _ | .eraseProfilesCompletion | .revertCompletion
  | .haltRequest _ | .nieDieWrite _ | .statusOverrunClear _ | .registerWrite _ _ | .resultRead | .dataRead | .dataWrite _
  | .noticeRead | .noticeCursorWrite _ | .clockLoRead | .clockTick | .powerOnReset _ | .pinReset _ | .powerLoss _
  | .resetRelease | .bootLoadEnd | .pgLineChange _ _ | .fltNLineChange _ _ | .detLineChange _ _ | .stbyLineChange _
  | .lowsupLineChange _ | .pgRise _ | .pgFall _ | .fltNAsserted _ | .fltNDeasserted _ | .rampTimerExpiry _
  | .dischargeTimerExpiry _ | .staggerTimerExpiry _ | .grantPass | .coolDownExpiry _ | .stableTimerExpiry _
  | .lowsupFilterChange _ | .standbyEvent | .wakeEvent | .spacingTimerExpiry | .detFilterChange _ _
  | .debounceTimerExpiry _ | .noticeHandover _ => none

/-- Two events go along one link. -/
def sameLink (i j : Instr) : Bool := (linkOf i).isSome && linkOf j == linkOf i

/-- Two events in flight, each with what made it, of use for the detect unit's: the first may not overtake the second, which is
older. On one link; among the re-presentations of RESUME, which go out in channel order (R139); a fall complete the fault report of
its fall (R82); "descent ended" the fault reports of the load's channels and their cancelled turns, since a channel is out of OFF
only while its load holds a reservation (R43, R82); "load UP" of a boot-on load the boot requests of its children (R41). -/
def Image.follows (img : Image) (i older : Instr × DetectSource) : Bool :=
  sameLink i.1 older.1 || (i.2 == .resume && older.2 == .resume) || match i.1, older.1 with
    | .fallComplete c, .faultReport d _ => c == d
    | .descentEnded l, .faultReport c _ | .descentEnded l, .cancelTurn c => img.servedLoad c == l
    | .loadUp p, .bootRequest l => (img.loads[p]).bootOn && (img.loads[l]).parent == some p
    | _, _ => false

/-- The events with what made each of them: those of the detect unit have a source, in their order (log 27). -/
def withSources : List Instr → List DetectSource → List (Instr × DetectSource)
  | [], _ => []
  | i :: is, xs => if fromDetect i then (i, xs.headD .asked) :: withSources is xs.tail else (i, .asked) :: withSources is xs

/-- The events in flight, oldest first, each with what made it. -/
def State.flight (s : State) : List (Instr × DetectSource) := withSources s.posted s.sources

/-- Of some events, those with a property, and what these may not overtake, and what those may not in their turn. -/
def Image.upTo (img : Image) (p : Instr × DetectSource → Bool) (es : List (Instr × DetectSource)) :
    List (Instr × DetectSource) :=
  es.foldr (fun x kept => if p x || kept.any (img.follows · x) then x :: kept else kept) []

/-- An event that nobody sent acts as if it had just been sent (log 3). -/
def State.sent (s : State) (i : Instr) : State := if s.posted.contains i then s else s.post i

/-- What made an event, which is the first of its name in flight. -/
def State.sourceOf (s : State) (i : Instr) : DetectSource := (((s.sent i).flight.find? (·.1 == i)).map (·.2)).getD .asked

/-- What must be taken before an event, oldest first; all in flight stand before an event that is not (log 3). -/
def State.older (s : State) (i : Instr) : List Instr :=
  (s.config.upTo (s.config.follows (i, s.sourceOf i)) (s.flight.takeWhile (·.1 != i))).map (·.1)

/-! ## Delivery -/

/-- Each event at its receiver. -/
def deliver : Instr → State → State
  | .startRamp c => channelStart c
  | .waitTurn c => channelWait c
  | .fall c => channelFall c
  | .cancelTurn c => channelCancel c
  | .grantHandover l => takeGrant l
  | .orderlyDescentOrder l => takeOrderlyOrder l
  | .tripOrder l => takeTripOrder l
  | .returnReport l => takeReturn l
  | .cancelDrain l => takeCancelDrain l
  | .channelOn c => takeChannelOn c
  | .fallComplete c => takeFallComplete c
  | .loadUp l => takeLoadUp l
  | .descentEnded l => takeDescentEnded l
  | .drainEnded l => takeDrainEnded l
  | .faultReport c _ => takeFaultReport c
  | .autoRequest l => takeAutoRequest l
  | .autoRelease l => takeAutoRelease l
  | .bootRequest l => takeBootRequest l
  | _ => id

/-- One event is taken. -/
def serve (s : State) (i : Instr) : State := deliver i (s.consume i)

/-- An event between two units: what it may not overtake is taken first, oldest first. -/
def takeInOrder (i : Instr) (s : State) : Host.Outcome State Fault Refusal :=
  .next (if s.running then (s.older i ++ [i]).foldl serve (s.sent i) else s.consume i)

/-- START_RAMP. -/
def execStartRamp (c : Chan) (s : State) : Host.Outcome State Fault Refusal := takeInOrder (.startRamp c) s

/-- WAIT_TURN. -/
def execWaitTurn (c : Chan) (s : State) : Host.Outcome State Fault Refusal := takeInOrder (.waitTurn c) s

/-- FALL. -/
def execFall (c : Chan) (s : State) : Host.Outcome State Fault Refusal := takeInOrder (.fall c) s

/-- CANCEL_TURN. -/
def execCancelTurn (c : Chan) (s : State) : Host.Outcome State Fault Refusal := takeInOrder (.cancelTurn c) s

/-- GRANT_HANDOVER. -/
def execGrantHandover (l : Load) (s : State) : Host.Outcome State Fault Refusal := takeInOrder (.grantHandover l) s

/-- ORDERLY_DESCENT_ORDER. -/
def execOrderlyDescentOrder (l : Load) (s : State) : Host.Outcome State Fault Refusal :=
  takeInOrder (.orderlyDescentOrder l) s

/-- TRIP_ORDER. -/
def execTripOrder (l : Load) (s : State) : Host.Outcome State Fault Refusal := takeInOrder (.tripOrder l) s

/-- RETURN_REPORT. -/
def execReturnReport (l : Load) (s : State) : Host.Outcome State Fault Refusal := takeInOrder (.returnReport l) s

/-- CANCEL_DRAIN. -/
def execCancelDrain (l : Load) (s : State) : Host.Outcome State Fault Refusal := takeInOrder (.cancelDrain l) s

/-- CHANNEL_ON. -/
def execChannelOn (c : Chan) (s : State) : Host.Outcome State Fault Refusal := takeInOrder (.channelOn c) s

/-- FALL_COMPLETE. -/
def execFallComplete (c : Chan) (s : State) : Host.Outcome State Fault Refusal := takeInOrder (.fallComplete c) s

/-- LOAD_UP. -/
def execLoadUp (l : Load) (s : State) : Host.Outcome State Fault Refusal := takeInOrder (.loadUp l) s

/-- DESCENT_ENDED. -/
def execDescentEnded (l : Load) (s : State) : Host.Outcome State Fault Refusal := takeInOrder (.descentEnded l) s

/-- DRAIN_ENDED. -/
def execDrainEnded (l : Load) (s : State) : Host.Outcome State Fault Refusal := takeInOrder (.drainEnded l) s

/-- FAULT_REPORT. -/
def execFaultReport (c : Chan) (cause : FaultCause) (s : State) : Host.Outcome State Fault Refusal :=
  takeInOrder (.faultReport c cause) s

/-- AUTO_REQUEST (R136). -/
def execAutoRequest (l : Load) (s : State) : Host.Outcome State Fault Refusal := takeInOrder (.autoRequest l) s

/-- AUTO_RELEASE (R137). -/
def execAutoRelease (l : Load) (s : State) : Host.Outcome State Fault Refusal := takeInOrder (.autoRelease l) s

/-- BOOT_REQUEST (R41, R191). -/
def execBootRequest (l : Load) (s : State) : Host.Outcome State Fault Refusal := takeInOrder (.bootRequest l) s

/-! ## What a command may not overtake -/

/-- The events in flight with a property are taken before something that may not overtake them, and before each what it may not
overtake itself, oldest first (log 27, log 31); the units serve events from the end of the boot load (log 13). -/
def settleFor (p : Instr → DetectSource → Bool) (s : State) : State :=
  if s.running then ((s.config.upTo (fun x => p x.1 x.2) s.flight).map (·.1)).foldl serve s else s

/-- A request of the detect unit for one of some loads (R135). -/
def requestFor (p : Load → Bool) : Instr → Bool
  | .autoRequest l => p l
  | _ => false

/-- A return report (R76). -/
def isReturn : Instr → Bool
  | .returnReport _ => true
  | _ => false

end Sys2Proof.Machine
end

