-- ==== Sys2Proof/Machine/Notices.lean ====
section
/-! DEFINITION. The notice unit's commands: a hand-over, the reads and the cursor write of NOTICE, the clock and its tick, which
also counts the timers of the other blocks (spec/10_notices_and_the_interrupt_line.md). -/

namespace Sys2Proof.Machine

/-- NOTICE_HANDOVER (R162). -/
def execNoticeHandover (n : Notice) (s : State) : Host.Outcome State Fault Refusal :=
  takeEvent (.noticeHandover n) (handOver n) s

/-- A NOTICE read: the byte the cursor names, then the advance or the pop (R164). -/
def readNotice (s : State) : State :=
  let t : State := { s with busOut := some (s.readRegister .notice) }
  match s.fifo with
  | [] => t
  | _ :: rest => if s.cursor = 4 then { t with fifo := rest, cursor := 0 } else { t with cursor := s.cursor + 1 }

/-- NOTICE_READ. -/
def execNoticeRead (s : State) : Host.Outcome State Fault Refusal := strobe readNotice s

/-- NOTICE_CURSOR_WRITE: any value (R165). -/
def execNoticeCursorWrite (_value : Byte) (s : State) : Host.Outcome State Fault Refusal :=
  strobe (fun t => { t with cursor := 0 }) s

/-- CLOCK_LO_READ: the low byte, and the high byte of the same value into the latch (R168). -/
def execClockLoRead (s : State) : Host.Outcome State Fault Refusal :=
  strobe (fun t => { t with busOut := some (t.readRegister .clockLo), clockLatch := highByte t.clock.toNat }) s

/-- A millisecond of a running timer (00, 0.6; log 4). -/
def Timer.tick : Timer → Timer
  | .stopped => .stopped
  | .running n => .running (n - 1)

/-- A millisecond of the discharge timer (R47). -/
def DischargeTimer.tick : DischargeTimer → DischargeTimer
  | .stopped => .stopped
  | .running n => .running (n - 1)
  | .expired => .expired

def Channel.tick (ch : Channel) : Channel :=
  { ch with ramp := ch.ramp.tick, discharge := ch.discharge.tick, debounce := ch.debounce.tick }

def LoadRun.tick (r : LoadRun) : LoadRun := { r with cooling := r.cooling.tick, stable := r.stable.tick }

def SeqRecord.tick (r : SeqRecord) : SeqRecord := { r with stagger := r.stagger.tick }

def Descent.tick : Descent → Descent
  | .spacing n => .spacing (n - 1)
  | .inactive => .inactive
  | .seeking => .seeking
  | .lowering l => .lowering l

/-- A millisecond of a 2 ms filter: a level that has held for its 2 ms is due (R99, R113; log 6). -/
def SlowLine.tick (x : SlowLine) : SlowLine :=
  match x.qualify with
  | .stopped => x
  | .running n => if n ≤ 1 then { x with qualify := .stopped, due := x.due ++ [x.line] } else { x with qualify := .running (n - 1) }

/-- A millisecond passes: the clock rises by 1 (R167), and every running timer counts it (log 4). -/
def tick (s : State) : State :=
  { s with
    clock := s.clock + 1
    chans := Vector.ofFn fun c => (s.chan c).tick
    loads := Vector.ofFn fun l => (s.load l).tick
    seq := Vector.ofFn fun l => (s.record l).map SeqRecord.tick
    descent := s.descent.tick
    stby := s.stby.tick
    lowsup := s.lowsup.tick }

/-- CLOCK_TICK: while reset is held the clock stands (R167). -/
def execClockTick (s : State) : Host.Outcome State Fault Refusal := .next (if s.released then tick s else s)

end Sys2Proof.Machine
end

