-- ==== Sys2Proof/Machine/Standby.lean ====
section
/-! DEFINITION. The standby event, the wake event with the replay of the resume list, and the spacing of the standby descent
(spec/07_standby_wake_and_halt.md). -/

namespace Sys2Proof.Machine

/-- The filtered STBY takes the level that is due (R113). -/
def setStby (asserted : Bool) (s : State) : State := { s with stby := s.stby.took asserted }

/-- The standby event (R113, R115). -/
def takeStandby (s : State) : State :=
  if !s.stby.takes true then s
  else
    let t := noteMode s.mode (setStby true s)
    if t.halted then t else select t

/-- STANDBY_EVENT. -/
def execStandbyEvent (s : State) : Host.Outcome State Fault Refusal := takeEvent .standbyEvent takeStandby s

/-- One load of the replay (R124); its pass is the one of the wake event (R123). -/
def replayLoad (s : State) (l : Load) : State := noteRefusal l (judge .wake l s)

/-- The wake event (R113, R123). -/
def takeWake (s : State) : State :=
  if !s.stby.takes false then s
  else
    let t := noteMode s.mode (setStby false s)
    let t : State := { t with descent := .inactive }
    let t : State := s.resume.reverse.foldl replayLoad t
    grantPass { t with resume := [] }

/-- WAKE_EVENT. -/
def execWakeEvent (s : State) : Host.Outcome State Fault Refusal := takeEvent .wakeEvent takeWake s

/-- Expiry of the spacing timer (R119). -/
def takeSpacingExpiry (s : State) : State :=
  match s.descent with
  | .spacing _ => select s
  | .inactive | .seeking | .lowering _ => s

/-- SPACING_TIMER_EXPIRY. -/
def execSpacingTimerExpiry (s : State) : Host.Outcome State Fault Refusal := takeEvent .spacingTimerExpiry takeSpacingExpiry s

end Sys2Proof.Machine
end

