-- ==== Sys2Proof/Machine/Mailbox.lean ====
section
/-! DEFINITION. The command mailbox: the take of a command, its checks, and each command's hand-over to its owner
(spec/09_the_command_mailbox.md). -/

namespace Sys2Proof.Machine

/-- Steps 1 to 3 of a take (R145). -/
def takeCommand (code : Byte) (s : State) : State :=
  { s with cmd := code, argCopy := s.args, resultSeq := s.resultSeq + 1, cmdDone := false }

/-- A command completes: its result is written and CMD_DONE set (R145, R146). -/
def complete (r : ResultCode × State) : State := { r.2 with result := r.1, cmdDone := true }

/-- A CMD write: taken while READY, otherwise discarded with OVERRUN (R145, R147). `act` is steps 4 to 6 of R145. -/
def writeCmd (code : Byte) (act : State → State) (s : State) : State :=
  match s.unit with
  | .ready => act (takeCommand code s)
  | .booting | .executing _ => { s with overrun := true }

/-- An immediate command, which completes within its take (R146). -/
def immediate (code : Byte) (owner : State → ResultCode × State) (s : State) : Host.Outcome State Fault Refusal :=
  strobe (writeCmd code fun t => complete (owner t)) s

/-- The load that ARG0 names (R149). -/
def argLoad (s : State) : Option Load := finOfByte 12 s.argCopy[0]

/-- The channel that ARG0 names (R149). -/
def argChan (s : State) : Option Chan := finOfByte 8 s.argCopy[0]

/-- FULL and REDUCED as SET_BUDGET carries them (R153). -/
def argFull (s : State) : Nat := s.argCopy[0].toNat + 256 * s.argCopy[1].toNat
def argReduced (s : State) : Nat := s.argCopy[2].toNat + 256 * s.argCopy[3].toNat

/-- A command on the load of ARG0: BAD_TARGET above 11 (R149). -/
def onLoad (act : Load → State → ResultCode × State) (s : State) : ResultCode × State :=
  match argLoad s with
  | some l => act l s
  | none => (.badTarget, s)

/-- REQUEST (R150). -/
def execRequest (s : State) : Host.Outcome State Fault Refusal := immediate 0x01 (onLoad (request .host)) s

/-- RELEASE (R150). -/
def execRelease (s : State) : Host.Outcome State Fault Refusal := immediate 0x02 (onLoad releaseLoad) s

/-- last-fault NONE for the channels of a load (R92). -/
def clearFaults (cs : List Chan) (s : State) : State :=
  cs.foldl (fun t c => t.setChan c { t.chan c with lastFault := none }) s

/-- What an attach or a detach of a channel of the load has handed over for it: a CLEAR does not come between (R141; log 27). -/
def clearWaits (s : State) (l : Load) (i : Instr) : DetectSource → Bool
  | .change c => detectLoad i == some l && s.config.servedLoad c == l
  | .revert | .resume | .asked => false

/-- CLEAR at the load; the re-presentation follows the completion (R92, R139, R151). What an attach or a detach before it has handed
over for a LOCKED load is taken first, and the load stays LOCKED (R141; log 27). -/
def clearLoad (l : Load) (s : State) : ResultCode × State :=
  match (s.load l).state with
  | .locked =>
    let s := settleFor (clearWaits s l) s
    (.done, representLoad l (clearFaults (s.config.channelsOf l) (enterIdle l s)))
  | .idle | .queued | .rising | .up | .draining | .descending _ | .cooling | .absorbed | .void => (.state, s)

/-- CLEAR. -/
def execClear (s : State) : Host.Outcome State Fault Refusal := immediate 0x03 (onLoad clearLoad) s

/-- DECLARE_OFF: BAD_TARGET above 7 (R57, R149). -/
def declareOff (s : State) : ResultCode × State :=
  match argChan s with
  | some c => channelDeclareOff c s
  | none => (.badTarget, s)

/-- DECLARE_OFF. -/
def execDeclareOff (s : State) : Host.Outcome State Fault Refusal := immediate 0x04 declareOff s

/-- SET_BUDGET (R7, R149, R153). -/
def setBudget (s : State) : ResultCode × State :=
  if Config.maxFull < argFull s ∨ argFull s < argReduced s then (.range, s)
  else (.done, recomputeCeiling { s with config := { s.config with full := argFull s, reduced := argReduced s } })

/-- SET_BUDGET. -/
def execSetBudget (s : State) : Host.Outcome State Fault Refusal := immediate 0x10 setBudget s

/-- SET_OVERTAKE (R26, R149, R154). -/
def setOvertake (s : State) : ResultCode × State :=
  if Config.maxOvertake < s.argCopy[0].toNat then (.range, s)
  else (.done, grantPass { s with config := { s.config with overtake := s.argCopy[0].toNat } })

/-- SET_OVERTAKE. -/
def execSetOvertake (s : State) : Host.Outcome State Fault Refusal := immediate 0x11 setOvertake s

/-- What the RESUME that ends a halt does not come before: requests and releases of an attach or a detach (R141), and the requests of
the completion of a REVERT (R139, R195; log 27). -/
def resumeWaits (i : Instr) : DetectSource → Bool
  | .change _ | .revert => fromDetect i
  | .resume | .asked => false

/-- RESUME at the arbiter; the re-presentation of every channel follows the completion (R128, R139, R152). What an attach, a detach or
a REVERT before it has handed over is taken first where it ends a halt (R139, R141; log 27). DESIGN CHOICE (log 30): it may come
before boot requests in flight, which are then judged out of the halt (R191). -/
def resumeService (s : State) : ResultCode × State :=
  if s.halted then
    let s := settleFor resumeWaits s
    let t := noteMode s.mode { s with halted := false }
    let t := if t.standbyFacet then select t else t
    (.done, allChans.foldl (represent .resume) (grantPass t))
  else (.state, s)

/-- RESUME. -/
def execResume (s : State) : Host.Outcome State Fault Refusal := immediate 0x12 resumeService s

/-- The copy of the part's state (R155, R185). -/
def State.snapshot (s : State) : Snapshot :=
  { time := s.clock
    mode := s.mode
    ceiling := s.ceiling
    committed := s.committed
    headroom := s.headroom
    queue := s.queue
    holders := s.holders
    loads := Vector.ofFn fun l => ((s.load l).state, (s.load l).attempts)
    chans := Vector.ofFn fun c =>
      { state := (s.chan c).state
        lastFault := (s.chan c).lastFault
        stuck := (s.chan c).stuck
        enAsserted := (s.chan c).state.enAsserted
        pg := (s.chan c).pg
        flt := (s.chan c).flt
        present := (s.chan c).present }
    resume := s.resume }

/-- SNAPSHOT. -/
def execSnapshot (s : State) : Host.Outcome State Fault Refusal :=
  immediate 0x20 (fun t => (.done, { t with view := some t.snapshot })) s

/-- A CMD write of a code that is no command (R149). -/
def execUnknown (code : Byte) (s : State) : Host.Outcome State Fault Refusal := immediate code (fun t => (.unknown, t)) s

end Sys2Proof.Machine
end

