-- ==== Sys2Proof/Machine/Store.lean ====
section
/-! DEFINITION. The profile store: saving, erasing, reverting, the resets, the loss of power and the boot load
(spec/12_profile_store_and_start_up.md). -/

namespace Sys2Proof.Machine

/-- A valid slot: the check word matches and the generation lies between 1 and 65534 (R187). -/
def Slot.valid (x : Slot) : Bool :=
  x.checkMatches && decide (1 ≤ x.generation.toNat) && decide (x.generation.toNat ≤ Config.maxGeneration)

def State.slot (s : State) : SlotId → Slot
  | .a => s.slotA
  | .b => s.slotB

def State.setSlot (s : State) (id : SlotId) (x : Slot) : State :=
  match id with
  | .a => { s with slotA := x }
  | .b => { s with slotB := x }

/-- The slot bytes as the store stands (R187). -/
def State.slotInfo (s : State) : SlotInfo :=
  { active := s.active
    validA := s.slotA.valid
    generationA := s.slotA.generation
    validB := s.slotB.valid
    generationB := s.slotB.generation }

/-- The slot bytes take their new values (R187). -/
def showSlots (s : State) : State := { s with shown := s.slotInfo }

/-! ## The long commands -/

/-- A long command: a failed take condition completes it at once, otherwise the unit enters EXECUTING (R145, R146, R149). -/
def longCommand (code : Byte) (begin_ : State → ResultCode ⊕ LongOp) (s : State) : Host.Outcome State Fault Refusal :=
  strobe (writeCmd code fun t =>
    match begin_ t with
    | .inl r => complete (r, t)
    | .inr op => { t with unit := .executing op }) s

/-- The take of SAVE_PROFILE: GEN_LIMIT, or the buffer, the target slot and the new generation are fixed (R156, R192). -/
def beginSave (s : State) : ResultCode ⊕ LongOp :=
  match s.active with
  | none => .inr (.save s.config .a 1)
  | some id =>
    if (s.slot id).generation.toNat = Config.maxGeneration then .inl .genLimit
    else .inr (.save s.config (match id with | .a => .b | .b => .a) ((s.slot id).generation + 1))

/-- SAVE_PROFILE. -/
def execSaveProfile (s : State) : Host.Outcome State Fault Refusal := longCommand 0x30 beginSave s

/-- ERASE_PROFILES (R156, R194). -/
def execEraseProfiles (s : State) : Host.Outcome State Fault Refusal := longCommand 0x31 (fun _ => .inr .erase) s

/-- REVERT: the arbiter is HALTED and committed is 0 (R149, R157). -/
def execRevert (s : State) : Host.Outcome State Fault Refusal :=
  longCommand 0x32 (fun t => if t.halted ∧ t.committed = 0 then .inr .revert else .inl .state) s

/-- The completion of a long command at the command unit (R146). -/
def completeLong (r : ResultCode) (s : State) : State := { complete (r, s) with unit := .ready }

/-- Stage 6 of a save (R192). -/
def endSave (matched : Bool) (s : State) : State :=
  match s.unit with
  | .executing (.save buffer target generation) =>
    if matched then
      let t := s.setSlot target { generation := generation, image := buffer, checkMatches := true }
      completeLong .done (showSlots { t with active := some target })
    else completeLong .storeFault (showSlots (s.setSlot target Slot.erased))
  | .executing .erase | .executing .revert | .ready | .booting => s

/-- SAVE_PROFILE_COMPLETION. -/
def execSaveProfileCompletion (matched : Bool) (s : State) : Host.Outcome State Fault Refusal :=
  takeEvent (.saveProfileCompletion matched) (endSave matched) s

/-- The end of an erase (R194). -/
def endErase (s : State) : State :=
  match s.unit with
  | .executing .erase =>
    completeLong .done (showSlots { s with slotA := Slot.erased, slotB := Slot.erased, active := none })
  | .executing (.save _ _ _) | .executing .revert | .ready | .booting => s

/-- ERASE_PROFILES_COMPLETION. -/
def execEraseProfilesCompletion (s : State) : Host.Outcome State Fault Refusal :=
  takeEvent .eraseProfilesCompletion endErase s

/-- A load under a membership that REVERT brings (R5, R21): ABSORBED or VOID where its channel is a member or its group has no
members, IDLE where it was one of the two and is no longer, otherwise as it was. -/
def regroupLoad (img : Image) (l : Load) (r : LoadRun) : LoadRun :=
  if img.offered l then
    match r.state with
    | .absorbed | .void => r.intoIdle
    | .idle | .queued | .rising | .up | .draining | .descending _ | .cooling | .locked => r
  else r.withdrawn (if l.val < 8 then .absorbed else .void)

/-- The image REVERT brings, and the active marker after it (R195). DESIGN CHOICE (log 29): no event of the model makes a written slot
stop matching, which the manual leaves open, so no run reaches the case of an active slot that no longer checks. -/
def revertSource (s : State) : Image × Option SlotId :=
  match s.active with
  | none => (Image.factory, none)
  | some id => if (s.slot id).valid then ((s.slot id).image, some id) else (Image.factory, none)

/-- The reload of a REVERT: configuration, loads, ceiling; no victim, no pass (R8, R21, R195). -/
def reloadConfig (s : State) : State :=
  let img := (revertSource s).1
  let t : State := { s with
    config := img
    active := (revertSource s).2
    loads := Vector.ofFn fun l => regroupLoad img l (s.load l)
    resume := s.resume.filter img.offered }
  { t with ceiling := t.ceilingNow }

/-- The end of a REVERT. It finds no record, since the return reports in flight are taken before (R68); so are the requests of the
detect unit for a load that becomes ABSORBED or VOID, and none meets MEMBER or EMPTY (R135). Channels that have newly become acting
are re-presented, and the RESUME that ends the halt does not overtake their requests (R139, R195; log 27). DESIGN CHOICE (log 28):
CH0 first; the manual gives an order only for RESUME. -/
def endRevert (s : State) : State :=
  match s.unit with
  | .executing .revert =>
    let img := (revertSource s).1
    let s := settleFor (fun i _ => requestFor (fun l => !img.offered l) i) (settleFor (fun i _ => isReturn i) s)
    let t := completeLong .done (showSlots (reloadConfig s))
    (allChans.filter fun c => !s.config.acting c).foldl (represent .revert) t
  | .executing (.save _ _ _) | .executing .erase | .ready | .booting => s

/-- REVERT_COMPLETION. -/
def execRevertCompletion (s : State) : Host.Outcome State Fault Refusal := takeEvent .revertCompletion endRevert s

/-! ## Interruption -/

/-- A slot left invalid; its generation as stored is FFFFh where the erase was complete and the generation not yet programmed,
and a free value otherwise (R187, R193, R194; log 15). -/
def spoil (id : SlotId) (erasedWell : Bool) (s : State) : State :=
  let g := if erasedWell then Config.erasedGeneration else Config.interruptedGeneration s.freeCount
  { s.setSlot id { s.slot id with generation := g, checkMatches := false } with freeCount := s.freeCount + 1 }

/-- What an abandoned save leaves in its target slot (R193). -/
def abandonSave (stage : SaveStage) (buffer : Image) (target : SlotId) (generation : Word16) (s : State) : State :=
  match stage with
  | .program | .verify => spoil target true s
  | .snapshot | .erase | .finalWrite | .eraseAfterFailure => spoil target false s
  | .finalMatched => s.setSlot target { generation := generation, image := buffer, checkMatches := true }

/-- What an abandoned erase leaves: slot B is erased first, then slot A (R194). -/
def abandonErase (stage : EraseStage) (s : State) : State :=
  match stage with
  | .slotB => spoil .b false s
  | .slotA => spoil .a false { s with slotB := Slot.erased }

/-- A reset or a loss of power abandons the store's operation (R193, R194, R195). -/
def abandonStore (reached : StoreProgress) (s : State) : State :=
  match s.unit with
  | .executing (.save buffer target generation) => abandonSave reached.save buffer target generation s
  | .executing .erase => abandonErase reached.erase s
  | .executing .revert | .ready | .booting => s

/-- Every item of runtime state at its reset value; the pins keep their levels and the slots their contents (R143, R170, R188).
The queue of commands is not the part's. -/
def resetState (phase : PowerPhase) (s : State) : State :=
  { State.reset with
    pending := s.pending
    phase := phase
    resetCause := s.resetCause
    stby := SlowLine.atReset s.stby.line
    lowsup := SlowLine.atReset s.lowsup.line
    chans := Vector.ofFn fun c => Channel.atReset (s.chan c).pgLine (s.chan c).fltLine (s.chan c).detLine
    slotA := s.slotA
    slotB := s.slotB
    freeCount := s.freeCount }

/-- POWER_ON_RESET: VDD rises, whatever the part was doing (R188). -/
def execPowerOnReset (reached : StoreProgress) (s : State) : Host.Outcome State Fault Refusal :=
  .next (resetState (.held .powerOn) (abandonStore reached s))

/-- PIN_RESET: a new reset where the part was released; a reset already held goes on with its cause (R188). -/
def execPinReset (reached : StoreProgress) (s : State) : Host.Outcome State Fault Refusal :=
  .next (match s.phase with
    | .released => resetState (.held .pin) (abandonStore reached s)
    | .held _ | .unpowered => s)

/-- POWER_LOSS (R193; log 25). -/
def execPowerLoss (reached : StoreProgress) (s : State) : Host.Outcome State Fault Refusal :=
  .next (resetState .unpowered (abandonStore reached s))

/-- RESET_RELEASE: the cause is set, the clock starts at 0, the command unit is BOOTING (R143, R167, R188, R189). -/
def execResetRelease (s : State) : Host.Outcome State Fault Refusal :=
  .next (match s.phase with
    | .held cause => { s with phase := .released, resetCause := cause, unit := .booting, clock := 0 }
    | .released | .unpowered => s)

/-! ## The boot load -/

/-- The image the boot load chooses (R189). -/
def bootSource (s : State) : BootSource :=
  if s.slotA.valid then
    if s.slotB.valid && decide (s.slotA.generation.toNat < s.slotB.generation.toNat) then .slotB else .slotA
  else if s.slotB.valid then .slotB
  else .defaults

def bootImage (s : State) : BootSource → Image
  | .defaults => Image.factory
  | .slotA => s.slotA.image
  | .slotB => s.slotB.image

def bootActive : BootSource → Option SlotId
  | .defaults => none
  | .slotA => some .a
  | .slotB => some .b

/-- Steps 1 and 2 of the end of the boot load (R191). -/
def bootStore (s : State) : State :=
  let src := bootSource s
  handOver (.boot src) (showSlots { s with config := bootImage s src, active := bootActive src })

/-- A channel at the end of the boot load, its filtered levels set from the lines (R42, R61, R133). -/
def Channel.started (ch : Channel) : Channel :=
  { Channel.atReset ch.pgLine ch.fltLine ch.detLine with pg := ch.pgLine, flt := ch.fltLine, det := ch.detLine }

/-- A line's filtered level is set from the pin (R100, R132). -/
def SlowLine.started (x : SlowLine) : SlowLine := { line := x.line, filtered := x.line, qualify := .stopped, due := [] }

/-- A load as the arbiter sets it up (R21). -/
def startLoad (img : Image) (l : Load) : LoadRun :=
  if img.offered l then LoadRun.atReset
  else LoadRun.atReset.withdrawn (if l.val < 8 then .absorbed else .void)

/-- Steps 3 and 4 (R191): channels, filtered lines, loads, ceiling, and the standby descent. -/
def bootArbiter (s : State) : State :=
  let t : State := { s with
    chans := Vector.ofFn fun c => (s.chan c).started
    stby := s.stby.started
    lowsup := s.lowsup.started
    loads := Vector.ofFn fun l => startLoad s.config l }
  { t with
    ceiling := t.ceilingNow
    descent := if t.standbyFacet && !t.halted then .seeking else .inactive }

/-- Step 5: every channel whose filtered DET is high starts its debounce (R142, R191). DESIGN CHOICE (log 24): where the debounce is 0
the channels attach within this event, CH0 first, in their ATTACH notices and in their requests; the manual gives no order. -/
def bootDetect (s : State) : State := (allChans.filter fun c => (s.chan c).det).foldl (fun t c => debounce c t) s

/-- The loads that are requested at boot, in load-number order (R191). -/
def bootLoads (s : State) : List Load :=
  allLoads.filter fun l => (s.loadConfig l).bootOn && (s.load l).state == .idle

/-- The end of the boot load (R191). -/
def endBoot (s : State) : State :=
  let t := bootDetect (bootArbiter (bootStore s))
  { t with unit := .ready }.postAll ((bootLoads t).map Instr.bootRequest)

/-- BOOT_LOAD_END. -/
def execBootLoadEnd (s : State) : Host.Outcome State Fault Refusal := .next (if s.booting then endBoot s else s)

end Sys2Proof.Machine
end

