-- ==== Sys2Proof/Machine/Window.lean ====
section
/-! DEFINITION. Strobes on the registers of the window other than CMD, DATA, NOTICE and CLOCK_LO (R148, R171 to R175). -/

namespace Sys2Proof.Machine

/-- The registers at offsets 0h to Fh, in offset order (R171). -/
def registerMap : Vector Register 16 :=
  #v[.status, .control, .cmd, .arg0, .arg1, .arg2, .arg3, .result, .resultSeq, .indexLo, .indexHi, .data, .notice, .noticeLevel,
    .clockLo, .clockHi]

/-- The register at an offset, A3 to A0 (R171). -/
def registerAt (offset : Fin 16) : Register := registerMap[offset]

/-- The command that a CMD write of a code is (R149, R174). -/
def commandAt (code : Byte) : Instr :=
  match code with
  | 0x01 => .request | 0x02 => .release | 0x03 => .clear | 0x04 => .declareOff | 0x10 => .setBudget | 0x11 => .setOvertake
  | 0x12 => .resume | 0x20 => .snapshot | 0x30 => .saveProfile | 0x31 => .eraseProfiles | 0x32 => .revert
  | code => .unknown code

/-- The command that a write cycle at an offset is (R171 to R175). -/
def writeCycle (offset : Fin 16) (v : Byte) : Instr :=
  match registerAt offset with
  | .status => if v.getLsbD 4 then .statusOverrunClear v else .registerWrite .status v
  | .control => if v.getLsbD 2 then .haltRequest v else .nieDieWrite v
  | .cmd => commandAt v
  | .data => .dataWrite v
  | .notice => .noticeCursorWrite v
  | .arg0 => .registerWrite .arg0 v
  | .arg1 => .registerWrite .arg1 v
  | .arg2 => .registerWrite .arg2 v
  | .arg3 => .registerWrite .arg3 v
  | .indexLo => .registerWrite .indexLo v
  | .indexHi => .registerWrite .indexHi v
  | .result => .registerWrite .result v
  | .resultSeq => .registerWrite .resultSeq v
  | .noticeLevel => .registerWrite .noticeLevel v
  | .clockLo => .registerWrite .clockLo v
  | .clockHi => .registerWrite .clockHi v

/-- The command that a read cycle at an offset is; a read without a side effect is none (R171; log 17). -/
def readCycle (offset : Fin 16) : Option Instr :=
  match registerAt offset with
  | .result => some .resultRead
  | .data => some .dataRead
  | .notice => some .noticeRead
  | .clockLo => some .clockLoRead
  | .status | .control | .cmd | .arg0 | .arg1 | .arg2 | .arg3 | .resultSeq | .indexLo | .indexHi | .noticeLevel | .clockHi => none

/-- What D0 to D7 carry in a read cycle at an offset; high-impedance while reset is held (R171, R188). -/
def State.readCycleByte (s : State) (offset : Fin 16) : Option Byte :=
  if s.released then some (s.readRegister (registerAt offset)) else none

/-- A CONTROL write: NIE and DIE are stored, and bit 2 at 1 is a HALT request (R125, R173). -/
def writeControl (v : Byte) (s : State) : State :=
  let t : State := { s with nie := v.getLsbD 0, die := v.getLsbD 1 }
  if v.getLsbD 2 then halt t else t

/-- HALT_REQUEST. -/
def execHaltRequest (v : Byte) (s : State) : Host.Outcome State Fault Refusal := strobe (writeControl v) s

/-- NIE_DIE_WRITE. -/
def execNieDieWrite (v : Byte) (s : State) : Host.Outcome State Fault Refusal := strobe (writeControl v) s

/-- STATUS_OVERRUN_CLEAR (R172). -/
def execStatusOverrunClear (v : Byte) (s : State) : Host.Outcome State Fault Refusal :=
  strobe (fun t => if v.getLsbD 4 then { t with overrun := false } else t) s

/-- A write to a register with no behaviour of its own: ARG0 to ARG3 and INDEX store the byte, the others ignore it (R144, R148,
R163, R168, R175). -/
def writePlain (r : Register) (v : Byte) (s : State) : State :=
  match r with
  | .arg0 => { s with args := s.args.set 0 v }
  | .arg1 => { s with args := s.args.set 1 v }
  | .arg2 => { s with args := s.args.set 2 v }
  | .arg3 => { s with args := s.args.set 3 v }
  | .indexLo => { s with index := highByte s.index.toNat ++ v }
  | .indexHi => { s with index := v ++ lowByte s.index.toNat }
  | .result | .resultSeq | .noticeLevel | .clockLo | .clockHi => s
  | .status | .control | .cmd | .data | .notice => s

/-- REGISTER_WRITE. -/
def execRegisterWrite (r : Register) (v : Byte) (s : State) : Host.Outcome State Fault Refusal := strobe (writePlain r v) s

/-- RESULT_READ: the code, then CMD_DONE is cleared (R148). -/
def execResultRead (s : State) : Host.Outcome State Fault Refusal :=
  strobe (fun t => { t with busOut := some (t.readRegister .result), cmdDone := false }) s

end Sys2Proof.Machine
end

