-- ==== Sys2Proof/Machine/Writes.lean ====
section
/-! DEFINITION. Writes to the configuration space: the checks and the effects of each field (R2, R44, R63 to R66, R178 to R182). -/

namespace Sys2Proof.Machine

/-- The group load admits a write to its record: IDLE, LOCKED or VOID (R63 to R65). -/
def groupWritable (s : State) (g : Group) : Bool :=
  match (s.load (groupLoad g)).state with
  | .idle | .locked | .void => true
  | .queued | .rising | .up | .draining | .descending _ | .cooling | .absorbed => false

/-- The load record admits a write: IDLE, LOCKED, ABSORBED or VOID (R2). -/
def loadWritable (s : State) (l : Load) : Bool :=
  match (s.load l).state with
  | .idle | .locked | .absorbed | .void => true
  | .queued | .rising | .up | .draining | .descending _ | .cooling => false

/-- The channel record admits a write: the load it serves is IDLE or LOCKED (R45, R178). -/
def chanWritable (s : State) (c : Chan) : Bool := (s.load (s.config.servedLoad c)).state.idleOrLocked

/-- The value lies in the field's set (R178). -/
def chanValueOk (f : ChanField) (v : Byte) : Bool :=
  match f with
  | .enabled => (boolOfByte v).isSome
  | .claim | .rampTimeout | .dischargeTime => v != 0
  | .debounce => true
  | .detect => (detectOfByte v).isSome
  | .polarity => (polarityOfByte v).isSome
  | .group | .rank => false

/-- A parent value: FFh none, 00h to 0Bh a load (R179). -/
def parentOfByte (v : Byte) : Option (Option Load) :=
  if v = 0xFF then some none else (finOfByte 12 v).map some

/-- The value lies in the field's set (R179). -/
def loadValueOk (f : LoadField) (v : Byte) : Bool :=
  match f with
  | .priority | .retryLimit => decide (v.toNat < 8)
  | .parent => (parentOfByte v).isSome
  | .coolDownBase | .stableTime => v != 0
  | .flags => decide (v.toNat < 16)
  | .claimLow | .claimHigh => false

/-- The loads met by following parent fields from a load, itself first, ABSORBED loads included (R66). -/
def parentChain (s : State) : Nat → Load → List Load
  | 0, _ => []
  | fuel + 1, l =>
    match (s.loadConfig l).parent with
    | none => [l]
    | some p => l :: parentChain s fuel p

/-- The checks of a parent write after STATE and RANGE, in their order (R66). -/
def checkParent (s : State) (l : Load) (v : Byte) : Option Reason :=
  match finOfByte 12 v with
  | none => none
  | some p =>
    if p = l then some .cycle
    else if (s.load p).state = .absorbed then some .inUse
    else if (parentChain s 13 p).contains l then some .cycle
    else none

/-- The checks of a channel written into a slot, in their order (R63). -/
def checkMember (s : State) (g : Group) (k : Slot8) (v : Byte) : Option Reason :=
  match finOfByte 8 v with
  | none => some .range
  | some c =>
    let members := (s.config.groups[g]).members
    if members.length < k.val then some .range
    else if !groupWritable s g then some .state
    else if members[k.val]? = some c then none
    else if (s.config.groupOf c).isSome then some .duplicate
    else if (s.load (ownLoad c)).state ≠ .idle then some .state
    else if allLoads.any fun l => (s.loadConfig l).parent == some (ownLoad c) then some .inUse
    else none

/-- The field's own checks (R181, check 4); `none` accepts. -/
def checkField (s : State) (loc : Location) (v : Byte) : Option Reason :=
  match loc with
  | .chan c f => if !chanWritable s c then some .state else if !chanValueOk f v then some .range else none
  | .load l f =>
    if !loadWritable s l then some .state
    else if !loadValueOk f v then some .range
    else if f = .parent then checkParent s l v
    else none
  | .slot g k =>
    if v = 0xFF then (if groupWritable s g then none else some .state) else checkMember s g k v
  | .stagger g => if groupWritable s g then none else some .state
  | .maskHigh => if v.toNat < 16 then none else some .range
  | .undefined | .info _ | .wrej | .memberCount _ | .spacing | .maskLow | .fullLow | .fullHigh | .reducedLow | .reducedHigh
  | .overtake | .view _ => none

/-- The checks of a DATA write in their order (R181). -/
def checkWrite (s : State) (loc : Location) (v : Byte) : Option Reason :=
  if s.loading then some .booting
  else if loc = .undefined then some .undefined
  else if loc.readOnly then some .readOnly
  else checkField s loc v

def setChanConfig (c : Chan) (r : ChannelConfig) (s : State) : State :=
  { s with config := { s.config with channels := s.config.channels.set c r } }

def setLoadConfig (l : Load) (r : LoadConfig) (s : State) : State :=
  { s with config := { s.config with loads := s.config.loads.set l r } }

def setGroupConfig (g : Group) (r : GroupConfig) (s : State) : State :=
  { s with config := { s.config with groups := s.config.groups.set g r } }

/-- An accepted channel field. The EN line follows its polarity (R44); a change of the detect mode to AUTO re-presents the
channel (R139, R140). -/
def writeChan (c : Chan) (f : ChanField) (v : Byte) (s : State) : State :=
  let r := s.chanConfig c
  match f with
  | .enabled => setChanConfig c { r with enabled := (boolOfByte v).getD r.enabled } s
  | .claim => setChanConfig c { r with claim := v } s
  | .rampTimeout => setChanConfig c { r with rampTimeout := v } s
  | .dischargeTime => setChanConfig c { r with dischargeTime := v } s
  | .debounce => setChanConfig c { r with debounce := v } s
  | .detect =>
    let m := (detectOfByte v).getD r.detect
    let t := setChanConfig c { r with detect := m } s
    if m = .auto ∧ r.detect ≠ .auto then represent .asked t c else t
  | .polarity => setChanConfig c { r with polarity := (polarityOfByte v).getD r.polarity } s
  | .group | .rank => s

/-- An accepted load field (R2, R179). -/
def writeLoad (l : Load) (f : LoadField) (v : Byte) (s : State) : State :=
  let r := s.loadConfig l
  match f with
  | .priority => setLoadConfig l { r with priority := (finOfByte 8 v).getD r.priority } s
  | .parent => setLoadConfig l { r with parent := (parentOfByte v).getD r.parent } s
  | .retryLimit => setLoadConfig l { r with retryLimit := (finOfByte 8 v).getD r.retryLimit } s
  | .coolDownBase => setLoadConfig l { r with coolDownBase := v } s
  | .stableTime => setLoadConfig l { r with stableTime := v } s
  | .flags => setLoadConfig l { r with
      bootOn := v.getLsbD 0
      requeueAfterShed := v.getLsbD 1
      keepInStandby := v.getLsbD 2
      resumeAfterStandby := v.getLsbD 3 } s
  | .claimLow | .claimHigh => s

/-- A channel is written into slot k: appended, or in place of the member there, whose own load returns to IDLE. The incoming
channel's load becomes ABSORBED, a VOID group load IDLE, and a new lead is re-presented (R5, R63, R138). -/
def writeMember (g : Group) (k : Slot8) (c : Chan) (s : State) : State :=
  let r := s.config.groups[g]
  if r.members[k.val]? = some c then s
  else
    let t := setGroupConfig g { r with
      members := if k.val < r.members.length then r.members.set k.val c else r.members ++ [c] } s
    let t := match r.members[k.val]? with
      | some old => enterIdle (ownLoad old) t
      | none => t
    let t := withdraw (ownLoad c) .absorbed t
    let t := if (t.load (groupLoad g)).state = .void then enterIdle (groupLoad g) t else t
    if k.val = 0 then represent .asked t c else t

/-- None is written into slot k: the member list is truncated to k members; the channels removed stand alone again, and a group
without members is VOID (R5, R64). -/
def truncateMembers (g : Group) (k : Slot8) (s : State) : State :=
  let r := s.config.groups[g]
  if r.members.length ≤ k.val then s
  else
    let t := setGroupConfig g { r with members := r.members.take k.val } s
    let t := (r.members.drop k.val).foldl (fun u c => enterIdle (ownLoad c) u) t
    if k.val = 0 then withdraw (groupLoad g) .void t else t

/-- The effect of an accepted write (R181). -/
def applyWrite (loc : Location) (v : Byte) (s : State) : State :=
  match loc with
  | .chan c f => writeChan c f v s
  | .load l f => writeLoad l f v s
  | .slot g k =>
    match finOfByte 8 v with
    | some c => writeMember g k c s
    | none => truncateMembers g k s
  | .stagger g => setGroupConfig g { s.config.groups[g] with stagger := v } s
  | .spacing => { s with config := { s.config with spacing := v } }
  | .maskLow =>
    { s with config := { s.config with mask := (s.config.mask &&& 0xF00#12) ||| v.setWidth 12 } }
  | .maskHigh =>
    { s with config := { s.config with mask := (s.config.mask &&& 0x0FF#12) ||| (v.setWidth 12 <<< 8) } }
  | .wrej => if v.getLsbD 0 then { s with wrej := false } else s
  | .undefined | .info _ | .memberCount _ | .fullLow | .fullHigh | .reducedLow | .reducedHigh | .overtake | .view _ => s

/-- A refused write is recorded with the index it was addressed to (R182). -/
def refuseWrite (reason : Reason) (s : State) : State :=
  { s with wrej := true, rejIndex := s.index, rejReason := reason }

/-- INDEX rises by 1, from FFFFh to 0000h (R175). -/
def advanceIndex (s : State) : State := { s with index := s.index + 1 }

/-- Whether a write may not overtake a request of the detect unit in flight: NOTIFY written into the mode of an acting
channel the request of that channel's own attach (R141); a channel written into a slot the requests for its own load, which becomes
ABSORBED, and none written into slot 0 those for the group load, which becomes VOID (R135). Every other write comes before or
after them (R184; log 27). -/
def waitsFor (s : State) (loc : Location) (v : Byte) (i : Instr) (source : DetectSource) : Bool :=
  match loc with
  | .chan c f =>
    decide (f = .detect) && v == 1 && s.config.acting c && i == .autoRequest (s.config.servedLoad c) && source == .change c
  | .slot g k =>
    requestFor (fun l => k.val == 0 && v == 0xFF && l == groupLoad g || (finOfByte 8 v).any fun c => l == ownLoad c) i
  | .undefined | .info _ | .wrej | .load _ _ | .stagger _ | .memberCount _ | .spacing | .maskLow | .maskHigh | .fullLow | .fullHigh
  | .reducedLow | .reducedHigh | .overtake | .view _ => false

/-- Before a DATA write whose checks pass, what it may not overtake is taken, and the checks run on the state it leaves (R141). -/
def settleForWrite (v : Byte) (s : State) : State :=
  let loc := locate s.index
  if (checkWrite s loc v).isNone then settleFor (waitsFor s loc v) s else s

/-- A DATA write (R175, R181). -/
def writeData (v : Byte) (s : State) : State :=
  let s := settleForWrite v s
  advanceIndex
    (match checkWrite s (locate s.index) v with
      | some reason => refuseWrite reason s
      | none => applyWrite (locate s.index) v s)

/-- DATA_WRITE. -/
def execDataWrite (v : Byte) (s : State) : Host.Outcome State Fault Refusal := strobe (writeData v) s

/-- DATA_READ (R175). -/
def execDataRead (s : State) : Host.Outcome State Fault Refusal :=
  strobe (fun t => advanceIndex { t with busOut := some (t.readRegister .data) }) s

end Sys2Proof.Machine
end

