-- ==== Sys2Proof/Machine/Dispatch.lean ====
section
/-! DEFINITION. The dispatch: each command to its meaning, in the order of the table. -/

namespace Sys2Proof.Machine

/-- What a command does to everything but the queue of commands. -/
def exec (i : Instr) (s : State) : Host.Outcome State Fault Refusal :=
  match i with
  | .request => Sys2Proof.Machine.execRequest s
  | .release => Sys2Proof.Machine.execRelease s
  | .clear => Sys2Proof.Machine.execClear s
  | .declareOff => Sys2Proof.Machine.execDeclareOff s
  | .setBudget => Sys2Proof.Machine.execSetBudget s
  | .setOvertake => Sys2Proof.Machine.execSetOvertake s
  | .resume => Sys2Proof.Machine.execResume s
  | .snapshot => Sys2Proof.Machine.execSnapshot s
  | .saveProfile => Sys2Proof.Machine.execSaveProfile s
  | .eraseProfiles => Sys2Proof.Machine.execEraseProfiles s
  | .revert => Sys2Proof.Machine.execRevert s
  | .unknown code => Sys2Proof.Machine.execUnknown code s
  | .saveProfileCompletion matched => Sys2Proof.Machine.execSaveProfileCompletion matched s
  | .eraseProfilesCompletion => Sys2Proof.Machine.execEraseProfilesCompletion s
  | .revertCompletion => Sys2Proof.Machine.execRevertCompletion s
  | .haltRequest value => Sys2Proof.Machine.execHaltRequest value s
  | .nieDieWrite value => Sys2Proof.Machine.execNieDieWrite value s
  | .statusOverrunClear value => Sys2Proof.Machine.execStatusOverrunClear value s
  | .registerWrite reg value => Sys2Proof.Machine.execRegisterWrite reg value s
  | .resultRead => Sys2Proof.Machine.execResultRead s
  | .dataRead => Sys2Proof.Machine.execDataRead s
  | .dataWrite value => Sys2Proof.Machine.execDataWrite value s
  | .noticeRead => Sys2Proof.Machine.execNoticeRead s
  | .noticeCursorWrite value => Sys2Proof.Machine.execNoticeCursorWrite value s
  | .clockLoRead => Sys2Proof.Machine.execClockLoRead s
  | .clockTick => Sys2Proof.Machine.execClockTick s
  | .powerOnReset reached => Sys2Proof.Machine.execPowerOnReset reached s
  | .pinReset reached => Sys2Proof.Machine.execPinReset reached s
  | .resetRelease => Sys2Proof.Machine.execResetRelease s
  | .bootLoadEnd => Sys2Proof.Machine.execBootLoadEnd s
  | .bootRequest l => Sys2Proof.Machine.execBootRequest l s
  | .pgLineChange c high => Sys2Proof.Machine.execPgLineChange c high s
  | .fltNLineChange c asserted => Sys2Proof.Machine.execFltNLineChange c asserted s
  | .detLineChange c high => Sys2Proof.Machine.execDetLineChange c high s
  | .stbyLineChange asserted => Sys2Proof.Machine.execStbyLineChange asserted s
  | .lowsupLineChange asserted => Sys2Proof.Machine.execLowsupLineChange asserted s
  | .pgRise c => Sys2Proof.Machine.execPgRise c s
  | .pgFall c => Sys2Proof.Machine.execPgFall c s
  | .fltNAsserted c => Sys2Proof.Machine.execFltNAsserted c s
  | .fltNDeasserted c => Sys2Proof.Machine.execFltNDeasserted c s
  | .rampTimerExpiry c => Sys2Proof.Machine.execRampTimerExpiry c s
  | .dischargeTimerExpiry c => Sys2Proof.Machine.execDischargeTimerExpiry c s
  | .startRamp c => Sys2Proof.Machine.execStartRamp c s
  | .waitTurn c => Sys2Proof.Machine.execWaitTurn c s
  | .fall c => Sys2Proof.Machine.execFall c s
  | .cancelTurn c => Sys2Proof.Machine.execCancelTurn c s
  | .channelOn c => Sys2Proof.Machine.execChannelOn c s
  | .fallComplete c => Sys2Proof.Machine.execFallComplete c s
  | .staggerTimerExpiry l => Sys2Proof.Machine.execStaggerTimerExpiry l s
  | .faultReport c cause => Sys2Proof.Machine.execFaultReport c cause s
  | .grantHandover l => Sys2Proof.Machine.execGrantHandover l s
  | .orderlyDescentOrder l => Sys2Proof.Machine.execOrderlyDescentOrder l s
  | .tripOrder l => Sys2Proof.Machine.execTripOrder l s
  | .returnReport l => Sys2Proof.Machine.execReturnReport l s
  | .cancelDrain l => Sys2Proof.Machine.execCancelDrain l s
  | .loadUp l => Sys2Proof.Machine.execLoadUp l s
  | .descentEnded l => Sys2Proof.Machine.execDescentEnded l s
  | .drainEnded l => Sys2Proof.Machine.execDrainEnded l s
  | .grantPass => Sys2Proof.Machine.execGrantPass s
  | .coolDownExpiry l => Sys2Proof.Machine.execCoolDownExpiry l s
  | .stableTimerExpiry l => Sys2Proof.Machine.execStableTimerExpiry l s
  | .lowsupFilterChange asserted => Sys2Proof.Machine.execLowsupFilterChange asserted s
  | .standbyEvent => Sys2Proof.Machine.execStandbyEvent s
  | .wakeEvent => Sys2Proof.Machine.execWakeEvent s
  | .spacingTimerExpiry => Sys2Proof.Machine.execSpacingTimerExpiry s
  | .detFilterChange c high => Sys2Proof.Machine.execDetFilterChange c high s
  | .debounceTimerExpiry c => Sys2Proof.Machine.execDebounceTimerExpiry c s
  | .autoRequest l => Sys2Proof.Machine.execAutoRequest l s
  | .autoRelease l => Sys2Proof.Machine.execAutoRelease l s
  | .noticeHandover n => Sys2Proof.Machine.execNoticeHandover n s
  | .powerLoss reached => Sys2Proof.Machine.execPowerLoss reached s

end Sys2Proof.Machine
end

