-- ==== Sys2Proof/Machine/Own.lean ====
section
/-! DEFINITION. The part's own work: the events in flight between its units, then the filter changes and the expiries that are due.
`step` takes one of them where no command waits (DESIGN CHOICE, log 1). -/

namespace Sys2Proof.Machine

/-- A timer whose milliseconds have passed (00, 0.6; log 4). -/
def Timer.due : Timer → Bool
  | .running 0 => true
  | .running (_ + 1) | .stopped => false

def DischargeTimer.due : DischargeTimer → Bool
  | .running 0 => true
  | .running (_ + 1) | .stopped | .expired => false

/-- A condition's event, where the condition holds. -/
def eventIf (b : Bool) (i : Instr) : List Instr := if b then [i] else []

/-- What is due at a channel: its filters (R42, R133) and its timers (R52, R55, R134). -/
def State.chanDue (s : State) (c : Chan) : List Instr :=
  let ch := s.chan c
  eventIf (ch.fltLine != ch.flt) (if ch.fltLine then .fltNAsserted c else .fltNDeasserted c)
    ++ eventIf (ch.pgLine != ch.pg) (if ch.pgLine then .pgRise c else .pgFall c)
    ++ eventIf (ch.detLine != ch.det) (.detFilterChange c ch.detLine)
    ++ eventIf ch.ramp.due (.rampTimerExpiry c)
    ++ eventIf ch.discharge.due (.dischargeTimerExpiry c)
    ++ eventIf ch.debounce.due (.debounceTimerExpiry c)

/-- What is due at a load: its cooling and stable timers (R89, R90) and its stagger timer (R70). -/
def State.loadDue (s : State) (l : Load) : List Instr :=
  eventIf (s.load l).cooling.due (.coolDownExpiry l)
    ++ eventIf (s.load l).stable.due (.stableTimerExpiry l)
    ++ match s.record l with
      | some r => eventIf r.stagger.due (.staggerTimerExpiry l)
      | none => []

/-- What is due at STBY and LOWSUP (R99, R113) and in the standby descent (R119). -/
def State.supplyDue (s : State) : List Instr :=
  eventIf (s.stby.takes true) .standbyEvent ++ eventIf (s.stby.takes false) .wakeEvent
    ++ eventIf (s.lowsup.takes true) (.lowsupFilterChange true) ++ eventIf (s.lowsup.takes false) (.lowsupFilterChange false)
    ++ match s.descent with
      | .spacing 0 => [.spacingTimerExpiry]
      | .spacing (_ + 1) | .inactive | .seeking | .lowering _ => []

/-- Every event of the part's own that can be taken, the events in flight first, oldest first. -/
def State.ownEvents (s : State) : List Instr :=
  if s.running then s.posted ++ allChans.flatMap s.chanDue ++ allLoads.flatMap s.loadDue ++ s.supplyDue else []

/-- The event of its own that the part takes next, if there is one. -/
def State.ownEvent (s : State) : Option Instr := s.ownEvents.head?

end Sys2Proof.Machine
end

