-- ==== Sys2Proof/Safety.lean ====
section
/-! DEFINITION. The vocabulary of the statements, and what the manual says holds of the part at every moment: the invariants. -/

namespace Sys2Proof.Machine

/-! ## Vocabulary -/

/-- A CMD write is taken: out of reset and READY (R145). -/
abbrev State.takesCommands (s : State) : Prop := s.phase = .released ∧ s.unit = .ready

/-- What a take leaves before the owner acts: the code, the argument copy, the count, CMD_DONE clear (R145). -/
def State.taken (s : State) (code : Byte) : State :=
  { s with cmd := code, argCopy := s.args, resultSeq := s.resultSeq + 1, cmdDone := false }

/-- A command that completes with a result (R145, R148). -/
def State.completed (s : State) (r : ResultCode) : State := { s with result := r, cmdDone := true }

/-- The FIFO after a block has recorded some notices in turn (R159, R161, R162). -/
def State.fifoAfter (s : State) (ns : List Notice) : List Record :=
  ns.foldl (fun q n => if kindEnabled s.config.mask n then storeNotice n s.clock q else q) s.fifo

/-- A MODE notice where the reported mode changes (R129). -/
def modeNotice (before after : Mode) : List Notice := if after = before then [] else [.mode after]

/-- The code of a command that arrives as a CMD write (R174). -/
def commandCode : Instr → Option Byte
  | .request => some 0x01
  | .release => some 0x02
  | .clear => some 0x03
  | .declareOff => some 0x04
  | .setBudget => some 0x10
  | .setOvertake => some 0x11
  | .resume => some 0x12
  | .snapshot => some 0x20
  | .saveProfile => some 0x30
  | .eraseProfiles => some 0x31
  | .revert => some 0x32
  | .unknown code => some code
  | _ => none

/-- What a request of the load would get, whatever its origin (R12 to R14). -/
def State.verdict (s : State) (l : Load) : ResultCode :=
  if s.halted then .halted
  else match (s.load l).state with
    | .idle =>
      if ∃ c ∈ s.config.channelsOf l, (s.chanConfig c).enabled = false then .disabled
      else if s.config.full < s.config.claimOf l then .oversize
      else .accepted
    | .draining | .descending .idle => .accepted
    | .queued | .rising | .up | .descending .requeue | .descending .retry | .cooling => .already
    | .locked => .locked
    | .absorbed => .member
    | .void => .empty

/-- A load none of whose descendants holds a reservation (R73, R76). -/
abbrev State.noHoldingDescendant (s : State) (l : Load) : Prop :=
  ∀ x : Load, s.holds x = true → s.descendantOf x l = false

/-- A candidate of the standby descent (R117). -/
abbrev State.lowerable (s : State) (l : Load) : Prop :=
  s.holds l = true ∧ ((s.load l).state = .rising ∨ (s.load l).state = .up)
    ∧ (s.loadConfig l).keepInStandby = false ∧ s.noHoldingDescendant l

/-- The place of a load on the holder list; the youngest grant stands latest (R9). -/
def State.place (s : State) (l : Load) : Nat := (s.holders.map (·.load)).idxOf l

/-- Less important than another load, or equally important and granted later (R103, R117). -/
abbrev State.goesBefore (s : State) (l x : Load) : Prop :=
  (s.loadConfig l).priority < (s.loadConfig x).priority
    ∨ (s.loadConfig l).priority = (s.loadConfig x).priority ∧ s.place x ≤ s.place l

/-- An entry is eligible (R28). -/
abbrev State.admits (s : State) (e : Entry) : Prop :=
  ((s.loadConfig e.load).parent = none ∨ ∃ p, (s.loadConfig e.load).parent = some p ∧ (s.load p).state = .up)
    ∧ (s.standbyFacet = false ∨ (s.loadConfig e.load).keepInStandby = true)
    ∧ s.config.claimOf e.load ≤ s.ceiling

/-- The entries ahead of an entry of the wait queue. -/
def State.ahead (s : State) (e : Entry) : List Entry := s.queue.takeWhile (· ≠ e)

/-- The running headroom at an entry's turn in a pass that grants some entries (R33). -/
def State.roomAt (s : State) (granted : List Entry) (e : Entry) : Nat :=
  s.ceiling - s.committed - (((s.ahead e).filter fun x => x ∈ granted).map fun x => s.config.claimOf x.load).sum

/-- Eligible and at its limit, its claim above the running headroom: the entry holds the pass (R33). -/
abbrev State.holdsPass (s : State) (granted : List Entry) (e : Entry) : Prop :=
  s.admits e ∧ s.roomAt granted e < s.config.claimOf e.load ∧ s.config.overtake ≤ e.overtaken

/-- No entry ahead holds the pass, so the scan treats this one (R33). -/
abbrev State.reached (s : State) (granted : List Entry) (e : Entry) : Prop := ∀ x ∈ s.ahead e, ¬s.holdsPass granted x

/-- Treated, eligible and below its limit, its claim above the running headroom: the pass bypasses the entry (R33). -/
abbrev State.bypassed (s : State) (granted : List Entry) (e : Entry) : Prop :=
  s.reached granted e ∧ s.admits e ∧ s.roomAt granted e < s.config.claimOf e.load ∧ e.overtaken < s.config.overtake

/-- The members of a load in WAIT_TURN, as its record knows them: those of a bring-up that stand behind step (R69, R70, R73;
log 21). -/
def State.waiting (s : State) (l : Load) (r : SeqRecord) : List Chan :=
  if r.phase = .rise then ((s.config.channelsOf l).drop (r.step + 1)).filter fun c => c ∈ r.outSet else []

/-- A record that goes on in ORDERLY, with its next order: fall to the highest-ranked channel of the out set, or "descent ended"
where the set is empty (R73, R74). -/
def State.lowered (s : State) (l : Load) (r : SeqRecord) : SeqRecord × Instr :=
  match ((s.config.channelsOf l).filter fun c => c ∈ r.outSet).getLast? with
  | some c => ({ r with phase := .orderly, step := (s.config.channelsOf l).idxOf c }, .fall c)
  | none => ({ r with phase := .orderly }, .descentEnded l)

/-! ## Invariants -/

/-- The channels of all groups, group by group. -/
abbrev Image.memberships (img : Image) : List Chan := allGroups.flatMap fun g => (img.groups[g]).members

/-- A channel is a member of at most one group, at one rank, and claims at least 1 BU (R45, R62, R63). -/
abbrev Image.sound (img : Image) : Prop := img.memberships.Nodup ∧ ∀ c : Chan, (img.channels[c]).claim ≠ 0

/-- The image a long command carries. -/
def LongOp.image : LongOp → Image
  | .save buffer _ _ => buffer
  | .erase | .revert => Image.factory

def UnitState.image : UnitState → Image
  | .executing op => op.image
  | .booting | .ready => Image.factory

/-- Every stored configuration is sound: the working configuration, the slots, and the buffer of a save in flight. -/
abbrev State.imagesSound (s : State) : Prop :=
  s.config.sound ∧ s.slotA.image.sound ∧ s.slotB.image.sound ∧ s.unit.image.sound

/-- The holder list holds exactly the loads in RISING, UP, DRAINING or DESCENDING, each once, with at least 1 BU (R3, R9). -/
abbrev State.holdersSound (s : State) : Prop :=
  (s.holders.map (·.load)).Nodup ∧ (∀ l : Load, l ∈ s.holders.map (·.load) ↔ (s.load l).state.holding = true)
    ∧ ∀ h ∈ s.holders, 1 ≤ h.amount

/-- The wait queue holds exactly the loads in QUEUED, each once, in non-increasing order of priority (R23). -/
abbrev State.queueSound (s : State) : Prop :=
  (s.queue.map (·.load)).Nodup ∧ (∀ l : Load, l ∈ s.queue.map (·.load) ↔ (s.load l).state = .queued)
    ∧ s.queue.Pairwise fun a b => b.priority ≤ a.priority

/-- Once the boot load has ended, a load is ABSORBED or VOID exactly where the membership makes it so (R5). -/
abbrev State.membershipSound (s : State) : Prop :=
  s.running = true → ∀ l : Load,
    (s.config.offered l = false ↔ (s.load l).state = if l.val < 8 then LoadState.absorbed else LoadState.void)
    ∧ (s.config.offered l = true → (s.load l).state ≠ .absorbed ∧ (s.load l).state ≠ .void)

/-- A load that HALTED admits: nothing queued, standing or cooling, and nothing that comes back (R126, R127). -/
def LoadState.halted : LoadState → Bool
  | .idle | .locked | .absorbed | .void | .descending .idle => true
  | .queued | .rising | .up | .draining | .cooling | .descending .requeue | .descending .retry => false

/-- While HALTED the queue and the resume list are empty, and every load is as HALT leaves it or has come down since (R126,
R127). -/
abbrev State.haltSound (s : State) : Prop :=
  s.halted = true → s.queue = [] ∧ s.resume = [] ∧ ∀ l : Load, (s.load l).state.halted = true

/-- A REVERT is in flight only while the arbiter is HALTED and committed is 0 (R157, R195). -/
abbrev State.revertSound (s : State) : Prop :=
  s.unit = .executing .revert → s.halted = true ∧ s.holders = []

/-- Before the end of the boot load no load has been requested and nothing of the detect unit is in flight; the unit leaves BOOTING
only in a released part (R21, R142, R143; the load states are log 12's). -/
abbrev State.startSound (s : State) : Prop :=
  s.running = false →
    s.unit = .booting ∧ s.sources = [] ∧ s.holders = [] ∧ s.queue = [] ∧ ∀ l : Load, (s.load l).state = .idle

/-- Before the end of the boot load the standby facet is off, nothing is on the resume list and no standby descent runs (R132). -/
abbrev State.standbyStartSound (s : State) : Prop :=
  s.running = false → s.stby.filtered = false ∧ s.resume = [] ∧ s.descent = .inactive

/-- The reservation account, the wait queue and what they rest on. -/
abbrev State.accountSound (s : State) : Prop :=
  s.imagesSound ∧ s.holdersSound ∧ s.queueSound ∧ s.membershipSound ∧ s.haltSound ∧ s.revertSound ∧ s.startSound

/-- The loads that stand or come up fit the ceiling (R102). -/
abbrev State.standingFits (s : State) : Prop := s.standingSum ≤ s.ceiling

/-- At most sixteen records; the sixteenth place holds only an OVERFLOW record; the cursor of an empty FIFO stands at byte 1
(R162, R164). -/
abbrev State.fifoSound (s : State) : Prop :=
  s.fifo.length ≤ Config.fifoDepth
    ∧ (s.fifo.length = Config.fifoDepth → ∃ r ∈ s.fifo.getLast?, kindCode r.notice = 15)
    ∧ (s.fifo = [] → s.cursor = 0)

/-- What a channel state says of the timers, the stuck flag and the filtered PG (R47 to R49, R52, R53, R55, R56). -/
abbrev Channel.sound (ch : Channel) : Prop :=
  (ch.ramp ≠ .stopped ↔ ch.state = .ramp) ∧ (ch.discharge ≠ .stopped ↔ ch.state = .fall)
    ∧ (ch.stuck = true ↔ ch.discharge = .expired) ∧ (ch.state = .ramp → ch.pg = false) ∧ (ch.state = .on → ch.pg = true)
    ∧ (ch.stuck = true → ch.pg = true)

/-- The debounce timer runs exactly while the filtered DET differs from the debounced state (R134). -/
abbrev Channel.debounceSound (ch : Channel) : Prop := ch.debounce ≠ .stopped ↔ ch.det ≠ ch.present

/-- The cooling timer runs in COOLING only, the stable timer in UP and DRAINING only; attempts is at most 7, and 0 in IDLE, ABSORBED
and VOID (R3, R5, R6). -/
abbrev LoadRun.sound (r : LoadRun) : Prop :=
  (r.cooling ≠ .stopped ↔ r.state = .cooling) ∧ (r.stable ≠ .stopped → r.state.stableRuns = true) ∧ r.attempts ≤ 7
    ∧ (r.state = .idle ∨ r.state = .absorbed ∨ r.state = .void → r.attempts = 0)

/-- The standby descent is INACTIVE exactly while the standby facet is off or the arbiter is HALTED (R116). -/
abbrev State.descentSound (s : State) : Prop :=
  s.descent = .inactive ↔ s.standbyFacet = false ∨ s.halted = true

/-- The resume list holds each load once, and is empty while the facet is off or the arbiter is HALTED (R121). -/
abbrev State.resumeSound (s : State) : Prop :=
  s.resume.Nodup ∧ (s.standbyFacet = false ∨ s.halted = true → s.resume = [])

end Sys2Proof.Machine
end

