-- ==== Sys2Proof/Certificates/Slice0/Obligations.lean ====
section
/-! DEFINITION. The statements for the provers, in the order of OBLIGATIONS.json. The rules of spec/ they rest on are cited there. -/

open Sys2Proof Sys2Proof.Machine

/-! ## The machine -/

/-- A step with a command waiting is that command's effect on the state with the queue's rest. The model's choices: the queue (log
1). -/
def Obligations.StepRunsTheFrontCommand : Prop :=
  ∀ (c : Instr) (rest : List Instr) (s : State),
    step { s with pending := c :: rest } = exec c { s with pending := rest }

/-- R21, R42, R61, R142, R171, R188: every command gives a next state, whatever the state, and leaves the commands that wait as
they were. A write or a read of a register is ignored while reset is held or the part has no power, and the clock stands; an event
of a unit has no effect there and while the boot load runs, but that it is no longer in flight; the end of a boot load that does
not run is ignored. The model's choices: the list of events in flight (log 2); events that nobody sent (log 3); units not in
service (log 13); cases that never meet (log 23). -/
def Obligations.EveryCommandGivesANextState : Prop :=
  ∀ (c : Instr) (s : State),
    (∃ t, exec c s = .next t ∧ t.pending = s.pending)
    ∧ match c with
      | .request | .release | .clear | .declareOff | .setBudget | .setOvertake | .resume | .snapshot | .saveProfile
      | .eraseProfiles | .revert | .unknown _ | .haltRequest _ | .nieDieWrite _ | .statusOverrunClear _ | .registerWrite _ _
      | .resultRead | .dataRead | .dataWrite _ | .noticeRead | .noticeCursorWrite _ | .clockLoRead | .clockTick =>
        s.phase ≠ .released → exec c s = .next s
      | .bootLoadEnd => s.phase ≠ .released ∨ s.unit ≠ .booting → exec c s = .next s
      | .powerOnReset _ | .pinReset _ | .powerLoss _ | .resetRelease | .pgLineChange _ _ | .fltNLineChange _ _
      | .detLineChange _ _ | .stbyLineChange _ | .lowsupLineChange _ => True
      | .saveProfileCompletion _ | .eraseProfilesCompletion | .revertCompletion | .bootRequest _ | .pgRise _ | .pgFall _
      | .fltNAsserted _ | .fltNDeasserted _ | .rampTimerExpiry _ | .dischargeTimerExpiry _ | .startRamp _ | .waitTurn _
      | .fall _ | .cancelTurn _ | .channelOn _ | .fallComplete _ | .staggerTimerExpiry _ | .faultReport _ _
      | .grantHandover _ | .orderlyDescentOrder _ | .tripOrder _ | .returnReport _ | .cancelDrain _ | .loadUp _
      | .descentEnded _ | .drainEnded _ | .grantPass | .coolDownExpiry _ | .stableTimerExpiry _ | .lowsupFilterChange _
      | .standbyEvent | .wakeEvent | .spacingTimerExpiry | .detFilterChange _ _ | .debounceTimerExpiry _ | .noticeHandover _ =>
        s.phase ≠ .released ∨ s.unit = .booting → exec c s = .next { s with posted := s.posted.erase c }
      | .autoRequest _ | .autoRelease _ =>
        s.phase ≠ .released ∨ s.unit = .booting →
          let before := (s.posted.takeWhile (· != c)).countP fun j => match j with
            | .autoRequest _ | .autoRelease _ => true
            | _ => false
          exec c s = .next { s with posted := s.posted.erase c, sources := s.sources.eraseIdx before }

/-- The reset state meets every invariant below. The model's choices: the pins at reset (log 9); values before the boot load (log
12). -/
def Obligations.ResetMeetsTheInvariants : Prop :=
  State.reset.accountSound ∧ State.reset.standingFits ∧ State.reset.fifoSound
    ∧ State.reset.descentSound ∧ State.reset.resumeSound ∧ State.reset.standbyStartSound
    ∧ (∀ c : Chan, (State.reset.chan c).sound ∧ (State.reset.chan c).debounceSound)
    ∧ ∀ l : Load, (State.reset.load l).sound

/-- R9, R23, R5, R126: every step keeps the holder list, the wait queue and the load states in agreement, and every load IDLE with
nothing of an attach, a detach or a REVERT handed over until the boot load has ended. The model's choices: values before the boot
load (log 12). -/
def Obligations.EveryStepKeepsTheAccount : Prop :=
  ∀ s t : State, s.accountSound → step s = .next t → t.accountSound

/-- R102: the loads that stand never reserve more than the ceiling. -/
def Obligations.EveryStepKeepsStandingWithinCeiling : Prop :=
  ∀ s t : State, s.accountSound → s.standingFits → step s = .next t → t.standingFits

/-- R162, R164: every step keeps the FIFO within its sixteen places. -/
def Obligations.EveryStepKeepsTheFifo : Prop :=
  ∀ s t : State, s.fifoSound → step s = .next t → t.fifoSound

/-- R47 to R56, R134: every step keeps each channel's state, timers, stuck flag and filtered PG in agreement, and its debounce
timer with its presence. The model's choices: timers in milliseconds (log 4). -/
def Obligations.EveryStepKeepsTheChannels : Prop :=
  ∀ s t : State, (∀ c : Chan, (s.chan c).sound ∧ (s.chan c).debounceSound) → step s = .next t →
    ∀ c : Chan, (t.chan c).sound ∧ (t.chan c).debounceSound

/-- R3, R5, R6: every step keeps each load's timers and attempts in agreement with its state. -/
def Obligations.EveryStepKeepsTheLoadTimers : Prop :=
  ∀ s t : State, s.accountSound → (∀ l : Load, (s.load l).sound) → step s = .next t → ∀ l : Load, (t.load l).sound

/-- R116, R121, R132: every step keeps the standby descent INACTIVE exactly while the facet is off or the arbiter is HALTED, the
resume list empty then and without repeats, and both of them, with the facet, off until the boot load has ended. -/
def Obligations.EveryStepKeepsTheStandbyDescent : Prop :=
  ∀ s t : State, s.descentSound → s.resumeSound → s.standbyStartSound → step s = .next t →
    t.descentSound ∧ t.resumeSound ∧ t.standbyStartSound

/-! ## Requests and releases -/

/-- R12, R14, R120: a REQUEST of a load that is not IDLE, or that finds the arbiter HALTED. A load that descends with after IDLE
gets after REQUEUE; a DRAINING load returns to UP with a cancel drain, a grant pass, and a selection where the standby descent
seeks. In every other case nothing changes but the mailbox. The model's choices: the list of events in flight (log 2). -/
def Obligations.RequestOfALoadNotIdle : Prop :=
  ∀ (l : Load) (s : State), s.takesCommands → s.args[0].toNat = l.val →
    (s.halted = true ∨ (s.load l).state ∈ [LoadState.queued, .rising, .up, .descending .requeue, .descending .retry,
        .cooling, .locked, .absorbed, .void] →
      exec .request s = .next ((s.taken 0x01).completed
        (if s.halted then .halted
          else if (s.load l).state = .locked then .locked
          else if (s.load l).state = .absorbed then .member
          else if (s.load l).state = .void then .empty
          else .already)))
    ∧ (s.halted = false → (s.load l).state = .descending .idle →
      exec .request s = .next (({ s.taken 0x01 with
        loads := s.loads.set l { s.load l with state := .descending .requeue } } : State).completed .accepted))
    ∧ (s.halted = false → (s.load l).state = .draining →
      let x := grantPass { s.taken 0x01 with
        loads := s.loads.set l { s.load l with state := .up }
        posted := s.posted ++ [.cancelDrain l] }
      exec .request s = .next ((if x.descent = .seeking then select x else x).completed .accepted))

/-- R13, R23, R30: a REQUEST of an IDLE load is refused with DISABLED or OVERSIZE, or makes an entry behind every entry of equal
or higher priority, and a grant pass follows. -/
def Obligations.RequestQueuesAnIdleLoad : Prop :=
  ∀ (l : Load) (s : State), s.takesCommands → s.args[0].toNat = l.val → s.halted = false → (s.load l).state = .idle →
    ((∃ c ∈ s.config.channelsOf l, (s.chanConfig c).enabled = false) →
      exec .request s = .next ((s.taken 0x01).completed .disabled))
    ∧ ((∀ c ∈ s.config.channelsOf l, (s.chanConfig c).enabled = true) → s.config.full < s.config.claimOf l →
      exec .request s = .next ((s.taken 0x01).completed .oversize))
    ∧ ((∀ c ∈ s.config.channelsOf l, (s.chanConfig c).enabled = true) → s.config.claimOf l ≤ s.config.full →
      s.queue.Pairwise (fun a b => b.priority ≤ a.priority) →
      ∃ ahead behind : List Entry, s.queue = ahead ++ behind
        ∧ (∀ e ∈ ahead, (s.loadConfig l).priority ≤ e.priority) ∧ (∀ e ∈ behind, e.priority < (s.loadConfig l).priority)
        ∧ exec .request s = .next ((grantPass { s.taken 0x01 with
            loads := s.loads.set l { s.load l with state := .queued }
            queue := ahead ++ { load := l, priority := (s.loadConfig l).priority, origin := .host, overtaken := 0 }
              :: behind }).completed .accepted))

/-- R16, R17, R25, R6: a RELEASE that lowers no load, by the load's state; every RELEASE takes the load off the resume list. -/
def Obligations.ReleaseThatLowersNothing : Prop :=
  ∀ (l : Load) (s : State), s.takesCommands → s.args[0].toNat = l.val →
    ((s.load l).state ∈ [LoadState.idle, .draining, .descending .idle] →
      exec .release s = .next (({ s.taken 0x02 with resume := s.resume.filter (· != l) } : State).completed
        (if l ∈ s.resume then .accepted else .already)))
    ∧ ((s.load l).state ∈ [LoadState.locked, .absorbed, .void] →
      exec .release s = .next (({ s.taken 0x02 with resume := s.resume.filter (· != l) } : State).completed
        (if (s.load l).state = .locked then .locked else if (s.load l).state = .absorbed then .member else .empty)))
    ∧ ((s.load l).state ∈ [LoadState.descending .requeue, .descending .retry] →
      exec .release s = .next (({ s.taken 0x02 with
        resume := s.resume.filter (· != l)
        loads := s.loads.set l { s.load l with state := .descending .idle } } : State).completed .accepted))
    ∧ ((s.load l).state = .cooling →
      exec .release s = .next (({ s.taken 0x02 with
        resume := s.resume.filter (· != l)
        loads := s.loads.set l { state := .idle, attempts := 0, cooling := .stopped, stable := .stopped } } : State).completed
          .accepted))
    ∧ ((s.load l).state = .queued →
      exec .release s = .next ((grantPass { s.taken 0x02 with
        resume := s.resume.filter (· != l)
        queue := s.queue.filter (·.load != l)
        loads := s.loads.set l { state := .idle, attempts := 0, cooling := .stopped, stable := .stopped } }).completed
          .accepted))

/-- R16, R73, R6: a RELEASE of a RISING load, or of an UP load none of whose descendants holds a reservation, starts its orderly
descent. The model's choices: the list of events in flight (log 2). -/
def Obligations.ReleaseLowersALoad : Prop :=
  ∀ (l : Load) (s : State), s.takesCommands → s.args[0].toNat = l.val →
    ((s.load l).state = .rising
      ∨ (s.load l).state = .up ∧ s.noHoldingDescendant l) →
    exec .release s = .next (({ s.taken 0x02 with
      resume := s.resume.filter (· != l)
      loads := s.loads.set l { s.load l with state := .descending .idle, stable := .stopped }
      posted := s.posted ++ [.orderlyDescentOrder l] } : State).completed .accepted)

/-- R16, R75: a RELEASE of an UP load with a reservation-holding descendant puts it into DRAINING and takes every such descendant
down with its request kept. The model's choices: the list of events in flight (log 2); the order of orders within an event (log
19); a drain within the release (log 20). -/
def Obligations.ReleaseDrainsTheSubtree : Prop :=
  ∀ (l : Load) (s : State), s.takesCommands → s.args[0].toNat = l.val → (s.load l).state = .up →
    s.descendantOf l l = false → s.holdersSound → ¬s.noHoldingDescendant l →
    ∃ t, exec .release s = .next t
      ∧ t.load l = { s.load l with state := .draining }
      ∧ (∀ x : Load, x ≠ l → t.load x =
          if s.holds x = true ∧ s.descendantOf x l = true then
            match (s.load x).state with
            | .rising | .up => { s.load x with state := .descending .requeue, stable := .stopped }
            | .draining => { s.load x with state := .descending .idle, stable := .stopped }
            | _ => s.load x
          else s.load x)
      ∧ t.posted = (s.posted.filter fun i => i != .cancelDrain l && i != .drainEnded l)
          ++ ((s.holders.map (·.load)).filter fun x => s.descendantOf x l && (s.load x).state.standing).map
            Instr.orderlyDescentOrder
      ∧ (∀ x : Load, t.record x =
          if x = l then (s.record l).map fun r => { r with phase := .drain, drainReported := false } else s.record x)
      ∧ t = ({ s.taken 0x02 with
          resume := s.resume.filter (· != l), loads := t.loads, posted := t.posted, seq := t.seq } : State).completed
            .accepted

/-- R12 to R14, R135, R136, R137, R139, R141, R191: a request of origin AUTO or BOOT is judged as a REQUEST, its entry carries its
origin, and a refusal with DISABLED, OVERSIZE, LOCKED or HALTED records REFUSED; MEMBER and EMPTY record nothing. A release from
the detect unit has the effect of RELEASE, less the mailbox, whatever the command unit is doing. What a DATA write may not
overtake of these in flight is taken before it: with NOTIFY written to an acting channel, the request of that channel's own
attach; with a membership write, the requests for the load it makes ABSORBED or VOID; with other writes nothing. The model's
choices: the list of events in flight (log 2); notices stored within the event (log 7); requests that find no load (log 18); what
overtakes no request (log 27); the order on a link (log 31). -/
def Obligations.DetectAndBootRequestsAreJudged : Prop :=
  ∀ (l : Load) (s : State) (i : Instr) (o : Origin), s.running = true →
    (s.older (.autoRelease l) = [] →
      ∃ t, exec .release { s.consume (.autoRelease l) with unit := .ready, args := #v[BitVec.ofNat 8 l.val, 0, 0, 0] } = .next t
      ∧ exec (.autoRelease l) s = .next { t with
          unit := s.unit, args := s.args
          cmd := s.cmd, argCopy := s.argCopy, resultSeq := s.resultSeq, result := s.result, cmdDone := s.cmdDone })
    ∧ (∀ (v : Byte) (j : Instr) (source : DetectSource), waitsFor s (locate s.index) v j source = true ↔
        match locate s.index with
        | .chan c f => f = .detect ∧ v = 1 ∧ s.config.acting c = true ∧ j = .autoRequest (s.config.servedLoad c)
            ∧ source = .change c
        | .slot g k => k = 0 ∧ v = 0xFF ∧ j = .autoRequest (groupLoad g)
            ∨ ∃ c : Chan, v.toNat = c.val ∧ j = .autoRequest (ownLoad c)
        | _ => False)
    ∧ (∀ v : Byte, settleForWrite v s =
        if checkWrite s (locate s.index) v = none then settleFor (waitsFor s (locate s.index) v) s else s)
    ∧ ((i = .autoRequest l ∧ o = .auto ∨ i = .bootRequest l ∧ o = .boot) → s.older i = [] →
    let before := (s.posted.takeWhile (· != i)).countP fun j => match j with
      | .autoRequest _ | .autoRelease _ => true
      | _ => false
    let u : State := { s with
      posted := s.posted.erase i, sources := if o = .auto then s.sources.eraseIdx before else s.sources }
    let disabled := ∃ c ∈ s.config.channelsOf l, (s.chanConfig c).enabled = false
    let state := (s.load l).state
    (s.halted = true → exec i s = .next { u with fifo := s.fifoAfter [.refused l .halted] })
    ∧ (s.halted = false →
      (state ∈ [LoadState.queued, .rising, .up, .descending .requeue, .descending .retry, .cooling, .absorbed, .void] →
        exec i s = .next u)
      ∧ (state = .locked → exec i s = .next { u with fifo := s.fifoAfter [.refused l .locked] })
      ∧ (state = .idle → disabled → exec i s = .next { u with fifo := s.fifoAfter [.refused l .disabled] })
      ∧ (state = .idle → ¬disabled → s.config.full < s.config.claimOf l →
        exec i s = .next { u with fifo := s.fifoAfter [.refused l .oversize] })
      ∧ (state = .idle → ¬disabled → s.config.claimOf l ≤ s.config.full →
        exec i s = .next (grantPass { u with
          loads := s.loads.set l { s.load l with state := .queued }
          queue := insertEntry { load := l, priority := (s.loadConfig l).priority, origin := o, overtaken := 0 } s.queue }))
      ∧ (state = .descending .idle →
        exec i s = .next { u with loads := s.loads.set l { s.load l with state := .descending .requeue } })
      ∧ (state = .draining →
        let x := grantPass { u with
          loads := s.loads.set l { s.load l with state := .up }
          posted := s.posted.erase i ++ [.cancelDrain l] }
        exec i s = .next (if x.descent = .seeking then select x else x))))

/-! ## Grant passes -/

/-- R31, R33, R36, R37: a grant pass runs unless the arbiter is HALTED or the account is over. It appends the loads it grants to
the holder list in queue order with their claims, puts them into RISING, records GRANTED, hands each over, and never brings
committed above the ceiling. The model's choices: the list of events in flight (log 2); notices stored within the event (log 7).
-/
def Obligations.GrantPassGrantsInQueueOrder : Prop :=
  ∀ s : State, s.running = true →
    (s.halted = true ∨ s.over = true → exec .grantPass s = .next (s.consume .grantPass))
    ∧ (s.halted = false → s.over = false →
      ∃ t, ∃ granted : List Entry, exec .grantPass s = .next t
        ∧ granted.Sublist s.queue
        ∧ t.holders = s.holders ++ granted.map (fun e => Holder.mk e.load (s.config.claimOf e.load))
        ∧ (∀ l : Load, t.load l =
            if l ∈ granted.map (·.load) then { s.load l with state := .rising } else s.load l)
        ∧ t.fifo = s.fifoAfter (granted.map fun e => Notice.granted e.load e.origin)
        ∧ t.posted = s.posted.erase .grantPass ++ granted.map (fun e => Instr.grantHandover e.load)
        ∧ t.committed ≤ t.ceiling
        ∧ t = { s with holders := t.holders, loads := t.loads, fifo := t.fifo, posted := t.posted, queue := t.queue })

/-- R28, R33, R34, R35: a pass grants exactly the entries that its scan reaches, that are eligible and whose claim fits the
running headroom at their turn; an eligible entry that does not fit stops the scan at its limit and is bypassed below it. The
others keep their order, and the count of each rises by 1 exactly where it was bypassed and an entry behind it was granted. -/
def Obligations.GrantPassCountsPassedEntries : Prop :=
  ∀ s : State, s.running = true → s.halted = false → s.over = false → s.queueSound →
    ∃ t, ∃ granted : List Entry, exec .grantPass s = .next t
      ∧ t.holders = s.holders ++ granted.map (fun e => Holder.mk e.load (s.config.claimOf e.load))
      ∧ granted = (s.queue.filter fun e =>
          s.reached granted e ∧ s.admits e ∧ s.config.claimOf e.load ≤ s.roomAt granted e)
      ∧ t.queue = (s.queue.filter fun e => e ∉ granted).map fun e =>
          if s.bypassed granted e ∧ ∃ x ∈ granted, x ∉ s.ahead e then { e with overtaken := e.overtaken + 1 } else e

/-- R33: an entry that a pass could grant next is not passed: the first eligible entry, where its claim fits the headroom, is
granted first. -/
def Obligations.GrantPassTakesTheFirstThatFits : Prop :=
  ∀ (s : State) (ahead behind : List Entry) (e : Entry), s.running = true → s.halted = false → s.over = false →
    s.queue = ahead ++ e :: behind →
    (∀ x ∈ ahead, eligible s x = false) →
    ((s.loadConfig e.load).parent = none ∨ ∃ p, (s.loadConfig e.load).parent = some p ∧ (s.load p).state = .up) →
    (s.standbyFacet = false ∨ (s.loadConfig e.load).keepInStandby = true) →
    s.config.claimOf e.load ≤ s.ceiling - s.committed →
    ∃ t, ∃ more : List Holder, exec .grantPass s = .next t
      ∧ t.holders = s.holders ++ { load := e.load, amount := s.config.claimOf e.load } :: more

/-- R32: a surplus pass has no visible effect. -/
def Obligations.SurplusGrantPassChangesNothing : Prop :=
  ∀ s t : State, s.running = true → exec .grantPass s = .next t → exec .grantPass t = .next (t.consume .grantPass)

/-- R30: after each event that starts a grant pass another pass would change nothing: a request or release of any origin that
makes or removes an entry or returns a load to UP, "load UP", the end of a descent, a cool-down expiry, a rise of the ceiling,
SET_OVERTAKE, the wake event and RESUME. All but the wake event in a part whose standby facet is off, where no selection follows
the pass. The model's choices: the order on a link (log 31). -/
def Obligations.TriggersLeaveNothingToGrant : Prop :=
  ∀ (s t : State) (i : Instr), s.running = true → s.older i = [] →
    i = .wakeEvent ∨ s.standbyFacet = false ∧ s.descent = .inactive →
    (let pulled (l : Load) : Prop := (s.load l).state ∈ [LoadState.idle, .draining] ∧ s.verdict l = .accepted
      let full := s.args[0].toNat + 256 * s.args[1].toNat
      let reduced := s.args[2].toNat + 256 * s.args[3].toNat
      match i with
      | .request => s.takesCommands ∧ ∃ l : Load, s.args[0].toNat = l.val ∧ pulled l
      | .autoRequest l => pulled l
      | .bootRequest l => pulled l
      | .release => s.takesCommands ∧ ∃ l : Load, s.args[0].toNat = l.val ∧ (s.load l).state = .queued
      | .autoRelease l => (s.load l).state = .queued
      | .loadUp l => (s.load l).state = .rising
      | .descentEnded l => ∃ a, (s.load l).state = .descending a
      | .coolDownExpiry l => (s.load l).state = .cooling ∧ (s.load l).cooling ≠ .stopped
      | .lowsupFilterChange b => s.lowsup.filtered ≠ b ∧ s.lowsup.due.head? = some b
          ∧ s.ceiling < if b then s.config.reduced else s.config.full
      | .setBudget => s.takesCommands ∧ full ≤ 2047 ∧ reduced ≤ full
          ∧ s.ceiling < if s.lowsup.filtered then reduced else full
      | .setOvertake => s.takesCommands ∧ s.args[0].toNat ≤ 15
      | .wakeEvent => s.stby.filtered = true ∧ s.stby.due.head? = some false
      | .resume => s.takesCommands ∧ s.halted = true
      | _ => False) →
    exec i s = .next t → grantPass t = t

/-! ## Events between the units -/

/-- R41, R43, R50, R59, R68, R82, R136, R137, R139, R191: events of one sender at one receiver are taken in the order in which
they were sent: what the arbiter sends the load sequencer, what the load sequencer sends the arbiter or a channel, the reports of
a channel to each of the two, the requests and releases of the detect unit for one load, those of RESUME for every load, and the
boot requests. A fault report is taken before the fall complete of its fall and before "descent ended" of its load, the cancelled
turns of a load's channels before its "descent ended", and the boot request of a child before "load UP" of its boot-on parent. An
event that is commanded takes those before it first, and then nothing stands before it; one that nobody sent acts as if it had
just been sent. What a command may not overtake is taken, oldest first, with what that may not overtake, and nothing else is. The
model's choices: the list of events in flight (log 2); events that nobody sent (log 3); what overtakes no request (log 27); the
order on a link (log 31). -/
def Obligations.EventsOfALinkComeInOrder : Prop :=
  ∀ (i : Instr) (s : State), s.running = true →
    let link (j : Instr) : Option (Nat × Nat) := match j with
      | .grantHandover _ | .orderlyDescentOrder _ | .tripOrder _ | .returnReport _ | .cancelDrain _ => some (0, 0)
      | .loadUp _ | .descentEnded _ | .drainEnded _ => some (1, 0)
      | .startRamp c | .waitTurn c | .fall c | .cancelTurn c => some (2, c.val)
      | .channelOn c | .fallComplete c => some (3, c.val)
      | .faultReport c _ => some (4, c.val)
      | .autoRequest l | .autoRelease l => some (5, l.val)
      | .bootRequest _ => some (6, 0)
      | _ => none
    let detect (j : Instr) : Bool := match j with | .autoRequest _ | .autoRelease _ => true | _ => false
    let run (x : State) (j : Instr) : State := match exec j x with | .next y => y | .fault _ | .refused _ => x
    let sent : State := if i ∈ s.posted then s else { s with posted := s.posted ++ [i] }
    let source : DetectSource := match sent.flight.find? (·.1 == i) with | some x => x.2 | none => .asked
    let follows (k j : Instr × DetectSource) : Bool :=
      (link k.1).isSome && link j.1 == link k.1 || k.2 == .resume && j.2 == .resume || match k.1, j.1 with
      | .fallComplete c, .faultReport d _ => c == d
      | .descentEnded l, .faultReport c _ | .descentEnded l, .cancelTurn c => s.config.servedLoad c == l
      | .loadUp p, .bootRequest l => (s.loadConfig p).bootOn && (s.loadConfig l).parent == some p
      | _, _ => false
    let needed (p : Instr × DetectSource → Bool) (es : List (Instr × DetectSource)) : List Instr :=
      (es.foldr (fun x kept => if p x || kept.any (follows · x) then x :: kept else kept) []).map (·.1)
    let first := needed (follows (i, source)) (s.flight.takeWhile (·.1 != i))
    s.flight.map (·.1) = s.posted
    ∧ (s.flight.filter fun x => detect x.1).map (·.2)
      = (s.sources ++ List.replicate s.posted.length DetectSource.asked).take (s.posted.countP detect)
    ∧ (∀ x ∈ s.flight, detect x.1 = false → x.2 = DetectSource.asked)
    ∧ s.older i = first
    ∧ (link i ≠ none → i ∈ s.posted → exec i s = exec i (first.foldl run s) ∧ (first.foldl run s).older i = [])
    ∧ (link i ≠ none → i ∉ s.posted → exec i s = exec i { s with posted := s.posted ++ [i] })
    ∧ ∀ p : Instr → DetectSource → Bool,
      (∀ x ∈ s.flight, p x.1 x.2 = true → detect x.1 = true) ∨ (∀ j x, p j x = true → ∃ l, j = .returnReport l) →
      settleFor p s = (needed (fun x => p x.1 x.2) s.flight).foldl run s

/-! ## Reports and expiries at the arbiter -/

/-- R72, R90: "load UP" moves a RISING load to UP, records LOAD_UP, starts the stable timer and runs a grant pass; in any other
state it is ignored. The model's choices: the list of events in flight (log 2); notices stored within the event (log 7); the order
on a link (log 31). -/
def Obligations.LoadUpReport : Prop :=
  ∀ (l : Load) (s : State), s.running = true → s.older (.loadUp l) = [] →
    ((s.load l).state = .rising →
      exec (.loadUp l) s = .next (grantPass { s with
        posted := s.posted.erase (.loadUp l)
        loads := s.loads.set l { s.load l with
          state := .up, stable := .running ((s.loadConfig l).stableTime.toNat * 100) }
        fifo := s.fifoAfter [.loadUp l] }))
    ∧ ((s.load l).state ≠ .rising → exec (.loadUp l) s = .next (s.consume (.loadUp l)))

/-- R89, R90, R15: the expiry of a COOLING load's timer makes an entry of origin RETRY, unchecked, and a grant pass follows; the
expiry of a stable timer sets attempts to 0 and changes nothing else of the load; a stopped timer does not expire. The model's
choices: the list of events in flight (log 2); timers in milliseconds (log 4). -/
def Obligations.LoadTimerExpiries : Prop :=
  ∀ (l : Load) (s : State), s.running = true →
    ((s.load l).state = .cooling → (s.load l).cooling ≠ .stopped →
      exec (.coolDownExpiry l) s = .next (grantPass { s with
        posted := s.posted.erase (.coolDownExpiry l)
        loads := s.loads.set l { s.load l with state := .queued, cooling := .stopped }
        queue := insertEntry { load := l, priority := (s.loadConfig l).priority, origin := .retry, overtaken := 0 }
          s.queue }))
    ∧ ((s.load l).state ≠ .cooling ∨ (s.load l).cooling = .stopped →
      exec (.coolDownExpiry l) s = .next (s.consume (.coolDownExpiry l)))
    ∧ ((s.load l).stable ≠ .stopped →
      exec (.stableTimerExpiry l) s = .next { s with
        posted := s.posted.erase (.stableTimerExpiry l)
        loads := s.loads.set l { s.load l with attempts := 0, stable := .stopped } })
    ∧ ((s.load l).stable = .stopped → exec (.stableTimerExpiry l) s = .next (s.consume (.stableTimerExpiry l)))

/-- R18, R19, R87, R88, R107: at "descent ended" the reservation leaves the account, LOAD_DOWN names the next state, the load
enters it, MODE follows where the over condition clears, and a grant pass runs. The standby descent's part is stated elsewhere.
The model's choices: the list of events in flight (log 2); notices stored within the event (log 7); the order on a link (log 31).
-/
def Obligations.DescentEndedSettlesTheLoad : Prop :=
  ∀ (l : Load) (a : After) (s : State), s.running = true → s.older (.descentEnded l) = [] → s.descent = .inactive →
    (s.load l).state = .descending a →
    ∃ u : State, ∃ next : DownState,
      exec (.descentEnded l) s = .next (grantPass u)
      ∧ u.holders = s.holders.filter (·.load != l)
      ∧ u.posted = s.posted.erase (.descentEnded l) ++ [.returnReport l]
      ∧ (∀ x : Load, x ≠ l → u.load x = s.load x)
      ∧ (match a with
        | .idle => next = .idle ∧ u.queue = s.queue
            ∧ u.load l = { state := .idle, attempts := 0, cooling := .stopped, stable := .stopped }
        | .requeue => next = .queued ∧ u.load l = { s.load l with state := .queued }
            ∧ u.queue = insertEntry
                { load := l, priority := (s.loadConfig l).priority, origin := .requeue, overtaken := 0 } s.queue
        | .retry =>
          if (s.load l).attempts < (s.loadConfig l).retryLimit.val then
            next = .cooling ∧ u.queue = s.queue
              ∧ u.load l = { s.load l with
                  state := .cooling
                  attempts := (s.load l).attempts + 1
                  cooling := .running ((s.loadConfig l).coolDownBase.toNat * 10
                    * [1, 2, 4, 8, 8, 8, 8].getD (s.load l).attempts 8) }
          else next = .locked ∧ u.queue = s.queue ∧ u.load l = { s.load l with state := .locked })
      ∧ u.fifo = s.fifoAfter (.loadDown l next :: modeNotice s.mode u.mode)
      ∧ u = { s with
          holders := u.holders, posted := u.posted, loads := u.loads, queue := u.queue, fifo := u.fifo }

/-- R82 to R84, R78: a fault report trips the load its channel serves with after RETRY, or keeps after IDLE, and trips every
reservation-holding descendant; a load that holds no reservation is left alone. The model's choices: the list of events in flight
(log 2); the order of orders within an event (log 19); cases that never meet (log 23); the order on a link (log 31). -/
def Obligations.FaultReportTripsTheLoad : Prop :=
  ∀ (c : Chan) (cause : FaultCause) (s : State), s.running = true → s.older (.faultReport c cause) = [] →
    let l := s.config.servedLoad c
    ((s.load l).state.holding = true → s.descendantOf l l = false →
      ∃ t, exec (.faultReport c cause) s = .next t
        ∧ t.load l = { s.load l with
            state := .descending (if (s.load l).state = .descending .idle then .idle else .retry)
            stable := .stopped }
        ∧ (∀ x : Load, x ≠ l → t.load x =
            if s.holds x = true ∧ s.descendantOf x l = true then
              match (s.load x).state with
              | .rising | .up => { s.load x with state := .descending .requeue, stable := .stopped }
              | .draining => { s.load x with state := .descending .idle, stable := .stopped }
              | _ => s.load x
            else s.load x)
        ∧ t.posted = s.posted.erase (.faultReport c cause) ++ Instr.tripOrder l
            :: ((s.holders.map (·.load)).filter fun x => s.descendantOf x l).map Instr.tripOrder
        ∧ t = { s with loads := t.loads, posted := t.posted })
    ∧ ((s.load l).state.holding = false →
      exec (.faultReport c cause) s = .next (s.consume (.faultReport c cause)))

/-! ## The ceiling and shedding -/

/-- R8, R78, R99, R101 to R104, R106, R107, R130, R153: a change of LOWSUP that has held for 2 ms, and a SET_BUDGET within its
range, recompute the ceiling, which is REDUCED under LOWSUP and FULL otherwise. An equal value changes nothing further; a higher
one is followed by MODE where the over condition clears and by a grant pass. A lower one sheds one victim after another, each the
least important and youngest of the loads that stand, as long as the standing sum exceeds it, and then records MODE where the over
condition begins. A shed records SHED and trips the victim and its reservation-holding descendants. The model's choices: the list
of events in flight (log 2); the 2 ms filters (log 6); notices stored within the event (log 7); the order of orders within an
event (log 19). -/
def Obligations.CeilingIsRecomputed : Prop :=
  ∀ (b : Bool) (s : State),
    let full := s.args[0].toNat + 256 * s.args[1].toNat
    let reduced := s.args[2].toNat + 256 * s.args[3].toNat
    (s.running = true → s.lowsup.filtered = b ∨ s.lowsup.due.head? ≠ some b →
      exec (.lowsupFilterChange b) s = .next (s.consume (.lowsupFilterChange b)))
    ∧ (s.running = true → s.lowsup.filtered ≠ b → s.lowsup.due.head? = some b →
      exec (.lowsupFilterChange b) s = .next (recomputeCeiling { s with
        posted := s.posted.erase (.lowsupFilterChange b)
        lowsup := { s.lowsup with filtered := b, due := s.lowsup.due.tail } }))
    ∧ (s.takesCommands → full ≤ 2047 → reduced ≤ full →
      exec .setBudget s = .next ((recomputeCeiling { s.taken 0x10 with
        config := { s.config with full := full, reduced := reduced } }).completed .done))
    ∧ (let n := if s.lowsup.filtered then s.config.reduced else s.config.full
      let u : State := { s with ceiling := n }
      (n = s.ceiling → recomputeCeiling s = s)
      ∧ (s.ceiling < n → recomputeCeiling s = grantPass { u with fifo := s.fifoAfter (modeNotice s.mode u.mode) })
      ∧ (n < s.ceiling → s.holdersSound →
        let sheds (x : State) (victims : List Load) : State := victims.foldl (fun y v => shed v y) x
        ∃ victims : List Load, ∃ t, t = sheds u victims
          ∧ recomputeCeiling s = { t with fifo := t.fifoAfter (modeNotice s.mode t.mode) }
          ∧ t.standingSum ≤ n
          ∧ ∀ (ahead behind : List Load) (v : Load), victims = ahead ++ v :: behind →
              let x := sheds u ahead
              n < x.standingSum ∧ (x.load v).state.standing = true
                ∧ ∀ y : Load, (x.load y).state.standing = true → x.goesBefore v y))
    ∧ (∀ v : Load, (s.load v).state.standing = true → s.descendantOf v v = false →
      let t := shed v s
      t.load v = { s.load v with
        state := .descending (if (s.load v).state = .draining then .idle
          else if (s.loadConfig v).requeueAfterShed then .requeue else .idle)
        stable := .stopped }
      ∧ (∀ x : Load, x ≠ v → t.load x =
          if s.holds x = true ∧ s.descendantOf x v = true then
            match (s.load x).state with
            | .rising | .up => { s.load x with state := .descending .requeue, stable := .stopped }
            | .draining => { s.load x with state := .descending .idle, stable := .stopped }
            | _ => s.load x
          else s.load x)
      ∧ t.fifo = s.fifoAfter [.shed v]
      ∧ t.posted = s.posted ++ Instr.tripOrder v
          :: ((s.holders.map (·.load)).filter fun x => s.descendantOf x v).map Instr.tripOrder
      ∧ t = { s with loads := t.loads, posted := t.posted, fifo := t.fifo })

/-- R154: SET_OVERTAKE above 15 fails with RANGE and leaves the limit; otherwise the limit is replaced, every count stays, a grant
pass runs under the new limit, and the result is DONE. -/
def Obligations.SetOvertakeReplacesTheLimit : Prop :=
  ∀ s : State, s.takesCommands →
    (15 < s.args[0].toNat → exec .setOvertake s = .next ((s.taken 0x11).completed .range))
    ∧ (s.args[0].toNat ≤ 15 →
      exec .setOvertake s = .next ((grantPass { s.taken 0x11 with
        config := { s.config with overtake := s.args[0].toNat } }).completed .done))

/-! ## Standby, wake and HALT -/

/-- R113, R115: once STBY has been asserted for its 2 ms the standby event sets the facet, records MODE where the reported mode
changes, and, unless the arbiter is HALTED, starts the descent with a selection; it starts no grant pass. A change that the filter
has discarded is no event. The model's choices: the list of events in flight (log 2); the 2 ms filters (log 6); notices stored
within the event (log 7). -/
def Obligations.StandbyEventStartsTheDescent : Prop :=
  ∀ s : State, s.running = true →
    (s.stby.filtered = true ∨ s.stby.due.head? ≠ some true → exec .standbyEvent s = .next (s.consume .standbyEvent))
    ∧ (s.stby.filtered = false → s.stby.due.head? = some true →
      let u : State := { s with
        posted := s.posted.erase .standbyEvent, stby := { s.stby with filtered := true, due := s.stby.due.tail } }
      let v : State := { u with fifo := s.fifoAfter (modeNotice s.mode u.mode) }
      exec .standbyEvent s = .next (if s.halted then v else select v))

/-- R117 to R119: at the expiry of the spacing timer a selection takes the least important, youngest candidate down with after
IDLE, and onto the resume list where its flag says so; with no candidate the descent seeks. In another phase nothing expires. The
model's choices: the list of events in flight (log 2); timers in milliseconds (log 4). -/
def Obligations.SpacingExpirySelects : Prop :=
  ∀ s : State, s.running = true → s.holdersSound →
    ((∀ n, s.descent ≠ .spacing n) → exec .spacingTimerExpiry s = .next (s.consume .spacingTimerExpiry))
    ∧ (∀ n, s.descent = .spacing n →
      ((∀ l : Load, ¬s.lowerable l) →
        exec .spacingTimerExpiry s = .next { s with
          posted := s.posted.erase .spacingTimerExpiry, descent := .seeking })
      ∧ (∀ x : Load, s.lowerable x →
        ∃ l : Load, s.lowerable l ∧ s.goesBefore l x
          ∧ exec .spacingTimerExpiry s = .next { s with
            posted := s.posted.erase .spacingTimerExpiry ++ [.orderlyDescentOrder l]
            loads := s.loads.set l { s.load l with state := .descending .idle, stable := .stopped }
            resume := if (s.loadConfig l).resumeAfterStandby && !s.resume.contains l then s.resume ++ [l] else s.resume
            descent := .lowering l }))

/-- R119, R120: the end of a descent, beside what it does with no standby descent, spaces or selects where it ends the current
load's descent, selects where the descent seeks, and leaves the record alone otherwise. The model's choices: the order on a link
(log 31). -/
def Obligations.StandbyDescentGoesOn : Prop :=
  ∀ (l : Load) (s : State), s.running = true → s.older (.descentEnded l) = [] → (∃ a, (s.load l).state = .descending a) →
    ∃ v, exec (.descentEnded l) { s with descent := .inactive } = .next v
      ∧ exec (.descentEnded l) s = .next (match s.descent with
        | .inactive => v
        | .seeking => select { v with descent := .seeking }
        | .spacing n => { v with descent := .spacing n }
        | .lowering current =>
          if current = l then
            if s.config.spacing = 0 then select { v with descent := .seeking }
            else { v with descent := .spacing s.config.spacing.toNat }
          else { v with descent := .lowering current })

/-- R113, R123, R124, R127: once STBY has been deasserted for its 2 ms the wake event clears the facet, records MODE, ends the
descent, judges each load of the resume list from the last to the first as a request of origin WAKE, empties the list and runs one
grant pass. While the arbiter is HALTED it clears the facet and does nothing more. The model's choices: the list of events in
flight (log 2); the 2 ms filters (log 6); notices stored within the event (log 7). -/
def Obligations.WakeReplaysTheResumeList : Prop :=
  ∀ s : State, s.running = true →
    let stby : SlowLine := { s.stby with filtered := false, due := s.stby.due.tail }
    (s.stby.filtered = false ∨ s.stby.due.head? ≠ some false → exec .wakeEvent s = .next (s.consume .wakeEvent))
    ∧ (s.stby.filtered = true → s.stby.due.head? = some false → s.halted = true → s.resume = [] →
      exec .wakeEvent s = .next { s with
        posted := s.posted.erase .wakeEvent, stby := stby, descent := .inactive })
    ∧ (s.stby.filtered = true → s.stby.due.head? = some false → s.halted = false → s.resume.Nodup →
      let replay := s.resume.reverse
      ∃ w, exec .wakeEvent s = .next (grantPass w)
        ∧ (∀ x : Load, w.load x =
            if x ∈ s.resume ∧ s.verdict x = .accepted then
              { s.load x with state := match (s.load x).state with
                  | .idle => .queued
                  | .draining => .up
                  | _ => .descending .requeue }
            else s.load x)
        ∧ w.queue = (replay.filter fun x => (s.load x).state = .idle ∧ s.verdict x = .accepted).foldl
            (fun q x => insertEntry { load := x, priority := (s.loadConfig x).priority, origin := .wake, overtaken := 0 } q)
            s.queue
        ∧ w.posted = s.posted.erase .wakeEvent
            ++ (replay.filter fun x => (s.load x).state = .draining).map Instr.cancelDrain
        ∧ w.fifo = s.fifoAfter (modeNotice s.mode ({ s with stby := stby } : State).mode
            ++ (replay.filter fun x => (s.verdict x).refusedDetail).map fun x => Notice.refused x (s.verdict x))
        ∧ w = { s with
            stby := stby, descent := .inactive, resume := [], loads := w.loads, queue := w.queue, posted := w.posted,
            fifo := w.fifo })

/-- R67, R78, R125, R126, R129, R173: a CONTROL write stores NIE and DIE. With HALT at 1 the arbiter enters HALTED: every holder
descends with after IDLE, tripped unless it was DESCENDING with its record IMMEDIATE already; queued and cooling loads enter IDLE;
the queue, the resume list and the standby descent are emptied; MODE follows, except during the boot load. Already HALTED, or with
HALT at 0, nothing else changes. The model's choices: the list of events in flight (log 2); notices stored within the event (log
7); the order of orders within an event (log 19); HALT's trip orders (log 22). -/
def Obligations.ControlWriteHalts : Prop :=
  ∀ (v : Byte) (s : State), s.phase = .released →
    let u : State := { s with nie := v.getLsbD 0, die := v.getLsbD 1 }
    (v.getLsbD 2 = false → exec (.nieDieWrite v) s = .next u)
    ∧ (v.getLsbD 2 = true → s.halted = true → exec (.haltRequest v) s = .next u)
    ∧ (v.getLsbD 2 = true → s.halted = false →
      ∃ t, exec (.haltRequest v) s = .next t
        ∧ (∀ l : Load, t.load l = match (s.load l).state with
            | .rising | .up | .draining | .descending _ =>
              { s.load l with state := .descending .idle, stable := .stopped }
            | .queued | .cooling => { state := .idle, attempts := 0, cooling := .stopped, stable := .stopped }
            | .idle | .locked | .absorbed | .void => s.load l)
        ∧ t.posted = s.posted ++ ((s.holders.map (·.load)).filter fun l =>
            (s.load l).state.standing || s.posted.contains (.grantHandover l)
              || (s.record l).map (·.phase) != some Phase.immediate).map Instr.tripOrder
        ∧ t.fifo = (if s.unit = .booting then s.fifo else s.fifoAfter [.mode .halted])
        ∧ t = { u with
            halted := true, queue := [], resume := [], descent := .inactive, loads := t.loads, posted := t.posted,
            fifo := t.fifo })

/-- R128, R139, R141, R152: RESUME fails with STATE unless the arbiter is HALTED; then it leaves HALTED, records MODE where the
reported mode changes, selects where the facet is on, runs a grant pass, and asks again for every acting channel that is present.
What an attach, a detach or a REVERT before it has handed over is taken first where it ends a halt. The model's choices: the list
of events in flight (log 2); notices stored within the event (log 7); what overtakes no request (log 27); boot requests in flight
(log 30). -/
def Obligations.ResumeEndsHalt : Prop :=
  ∀ s : State, s.takesCommands →
    (s.halted = false → exec .resume s = .next ((s.taken 0x12).completed .state))
    ∧ (s.halted = true →
      let x := settleFor (fun i source => decide (∃ l : Load, (i = .autoRequest l ∨ i = .autoRelease l)
        ∧ (source = .revert ∨ ∃ c : Chan, source = .change c))) (s.taken 0x12)
      let u : State := { x with halted := false }
      let v : State := { u with fifo := x.fifoAfter (modeNotice .halted u.mode) }
      let w := grantPass (if s.stby.filtered then select v else v)
      let asked := allChans.filter fun c => s.config.acting c && (s.chan c).present
      exec .resume s = .next (({ w with
        posted := w.posted ++ asked.map fun c => Instr.autoRequest (s.config.servedLoad c)
        sources := w.sources ++ asked.map fun _ => .resume } : State).completed .done))

/-! ## Channels -/

/-- R50, R51, R54, R55: what wait turn, fall and cancel turn do in each channel state. A start ramp order in OFF or WAIT_TURN
takes an OVERCURRENT fault where FLT_N is asserted, reaches ON where PG is high, and starts the ramp timer otherwise; in another
state it has no effect. The model's choices: the list of events in flight (log 2); notices stored within the event (log 7); the
order on a link (log 31). -/
def Obligations.ChannelOrdersByState : Prop :=
  ∀ (c : Chan) (s : State), s.running = true →
    let ch := s.chan c
    let takes (i : Instr) (t : State) : Prop := s.older i = [] → exec i s = .next t
    let becomes (i : Instr) (x : Channel) : Prop := takes i { s with chans := s.chans.set c x, posted := s.posted.erase i }
    let rest := s.posted.erase (.startRamp c)
    (ch.state = .off → becomes (.waitTurn c) { ch with state := .waitTurn }
      ∧ becomes (.fall c) ch ∧ becomes (.cancelTurn c) ch)
    ∧ (ch.state = .waitTurn → becomes (.waitTurn c) ch
      ∧ becomes (.fall c) { ch with state := .off } ∧ becomes (.cancelTurn c) { ch with state := .off })
    ∧ (ch.state = .ramp ∨ ch.state = .on → becomes (.waitTurn c) ch ∧ becomes (.cancelTurn c) ch
      ∧ becomes (.fall c) { ch with
          state := .fall, ramp := .stopped, discharge := .running (s.chanConfig c).dischargeTime.toNat })
    ∧ (ch.state = .fall → becomes (.waitTurn c) ch ∧ becomes (.fall c) ch ∧ becomes (.cancelTurn c) ch)
    ∧ ((ch.state = .off ∨ ch.state = .waitTurn) →
      (ch.flt = true → takes (.startRamp c) { s with
        chans := s.chans.set c { ch with
          state := .fall
          lastFault := some .overcurrent
          ramp := .stopped
          discharge := .running (s.chanConfig c).dischargeTime.toNat }
        fifo := s.fifoAfter [.fault c .overcurrent]
        posted := rest ++ [.faultReport c .overcurrent] })
      ∧ (ch.flt = false → ch.pg = true → takes (.startRamp c) { s with
        chans := s.chans.set c { ch with state := .on, ramp := .stopped }, posted := rest ++ [.channelOn c] })
      ∧ (ch.flt = false → ch.pg = false → takes (.startRamp c) { s with
        chans := s.chans.set c { ch with state := .ramp, ramp := .running (s.chanConfig c).rampTimeout.toNat }
        posted := rest }))
    ∧ (ch.state ∈ [ChanState.ramp, .on, .fall] → takes (.startRamp c) { s with posted := rest })

/-- R42, R48, R49, R51, R53, R55: a rise of PG takes RAMP to ON with a channel ON report; in OFF and WAIT_TURN it records STRAY_PG
once on an enabled channel; in ON and FALL the level alone changes. A rise whose line has returned is discarded. The model's
choices: the list of events in flight (log 2); the 100 us filters (log 5); notices stored within the event (log 7). -/
def Obligations.PgRiseByState : Prop :=
  ∀ (c : Chan) (s : State), s.running = true →
    let ch := s.chan c
    let rest := s.posted.erase (.pgRise c)
    let high := { ch with pg := true }
    (ch.pg = true ∨ ch.pgLine = false → exec (.pgRise c) s = .next { s with posted := rest })
    ∧ (ch.pg = false → ch.pgLine = true →
      (ch.state = .ramp → exec (.pgRise c) s = .next { s with
        chans := s.chans.set c { high with state := .on, ramp := .stopped }, posted := rest ++ [.channelOn c] })
      ∧ (ch.state = .off ∨ ch.state = .waitTurn →
        exec (.pgRise c) s = .next (
          if (s.chanConfig c).enabled = true ∧ ch.strayNoted = false then
            { s with
              chans := s.chans.set c { high with strayNoted := true }
              posted := rest
              fifo := s.fifoAfter [.strayPg c] }
          else { s with chans := s.chans.set c high, posted := rest }))
      ∧ (ch.state = .on ∨ ch.state = .fall →
        exec (.pgRise c) s = .next { s with chans := s.chans.set c high, posted := rest }))

/-- R42, R52 to R55: FLT_N asserted in RAMP or ON is OVERCURRENT, the ramp timer's expiry in RAMP is RAMP_TIMEOUT, a fall of PG in
ON is PG_LOST. Each sets last-fault, records FAULT, enters FALL with the discharge timer running and the ramp timer stopped, and
reports to the arbiter. The model's choices: the list of events in flight (log 2); timers in milliseconds (log 4); the 100 us
filters (log 5); notices stored within the event (log 7). -/
def Obligations.ChannelFaultsBeginAFall : Prop :=
  ∀ (c : Chan) (s : State), s.running = true →
    let ch := s.chan c
    let faulted (i : Instr) (x : Channel) (cause : FaultCause) : Prop :=
      exec i s = .next { s with
        chans := s.chans.set c { x with
          state := .fall
          lastFault := some cause
          ramp := .stopped
          discharge := .running (s.chanConfig c).dischargeTime.toNat }
        fifo := s.fifoAfter [.fault c cause]
        posted := s.posted.erase i ++ [.faultReport c cause] }
    (ch.flt = false → ch.fltLine = true → ch.state = .ramp ∨ ch.state = .on →
      faulted (.fltNAsserted c) { ch with flt := true } .overcurrent)
    ∧ (ch.pg = true → ch.pgLine = false → ch.state = .on → faulted (.pgFall c) { ch with pg := false } .pgLost)
    ∧ (ch.state = .ramp → ch.ramp ≠ .stopped → faulted (.rampTimerExpiry c) ch .rampTimeout)

/-- R42, R48, R49, R51, R55, R60: filtered changes and expiries that a channel state ignores change the level alone, or nothing; a
change whose line has returned changes nothing. The model's choices: the list of events in flight (log 2); timers in milliseconds
(log 4); the 100 us filters (log 5). -/
def Obligations.ChannelEventsWithoutEffect : Prop :=
  ∀ (c : Chan) (s : State), s.running = true →
    let ch := s.chan c
    let becomes (i : Instr) (x : Channel) : Prop :=
      exec i s = .next { s with chans := s.chans.set c x, posted := s.posted.erase i }
    becomes (.fltNDeasserted c) (if ch.fltLine = false then { ch with flt := false } else ch)
    ∧ (ch.flt = true ∨ ch.fltLine = false → becomes (.fltNAsserted c) ch)
    ∧ (ch.flt = false → ch.fltLine = true → ch.state ∈ [ChanState.off, .waitTurn, .fall] →
      becomes (.fltNAsserted c) { ch with flt := true })
    ∧ (ch.pg = false ∨ ch.pgLine = true → becomes (.pgFall c) ch)
    ∧ (ch.pg = true → ch.pgLine = false →
      ch.state ∈ [ChanState.off, .waitTurn, .ramp] ∨ ch.state = .fall ∧ ch.discharge ≠ .expired →
      becomes (.pgFall c) { ch with pg := false })
    ∧ (ch.state ≠ .ramp ∨ ch.ramp = .stopped → becomes (.rampTimerExpiry c) ch)
    ∧ (ch.state ≠ .fall ∨ ch.discharge = .stopped ∨ ch.discharge = .expired → becomes (.dischargeTimerExpiry c) ch)

/-- R55, R56: FALL ends at the discharge expiry where PG is low, and at the PG fall where the timer has expired; an expiry with PG
high makes the channel stuck and records PG_STUCK. The model's choices: the list of events in flight (log 2); timers in
milliseconds (log 4); the 100 us filters (log 5); notices stored within the event (log 7). -/
def Obligations.FallEndsWhenDischarged : Prop :=
  ∀ (c : Chan) (s : State), s.running = true → (s.chan c).state = .fall →
    let ch := s.chan c
    let ended (i : Instr) (x : Channel) : Prop :=
      exec i s = .next { s with
        chans := s.chans.set c { x with state := .off, discharge := .stopped, stuck := false, strayNoted := false }
        posted := s.posted.erase i ++ [.fallComplete c] }
    (∀ n, ch.discharge = .running n → ch.pg = false → ended (.dischargeTimerExpiry c) ch)
    ∧ (∀ n, ch.discharge = .running n → ch.pg = true →
      exec (.dischargeTimerExpiry c) s = .next { s with
        chans := s.chans.set c { ch with discharge := .expired, stuck := true }
        posted := s.posted.erase (.dischargeTimerExpiry c)
        fifo := s.fifoAfter [.pgStuck c] })
    ∧ (ch.discharge = .expired → ch.pg = true → ch.pgLine = false → ended (.pgFall c) { ch with pg := false })

/-- R57, R92, R139, R141, R151: DECLARE_OFF ends a stuck fall, and CLEAR returns a LOCKED load to IDLE, clears the last-fault of
its channels and asks again for its acting channel; in every other state of the target each fails with STATE. What an attach or a
detach before a CLEAR has handed over for the LOCKED load, by one of its channels, is taken first. The model's choices: the list
of events in flight (log 2); what overtakes no request (log 27). -/
def Obligations.DeclareOffAndClear : Prop :=
  ∀ s : State, s.takesCommands →
    (∀ c : Chan, s.args[0].toNat = c.val →
      ((s.chan c).state = .fall → (s.chan c).stuck = true →
        exec .declareOff s = .next (({ s.taken 0x04 with
          chans := s.chans.set c { s.chan c with
            state := .off, discharge := .stopped, stuck := false, strayNoted := false }
          posted := s.posted ++ [.fallComplete c] } : State).completed .done))
      ∧ ((s.chan c).state ≠ .fall ∨ (s.chan c).stuck = false →
        exec .declareOff s = .next ((s.taken 0x04).completed .state)))
    ∧ (∀ l : Load, s.args[0].toNat = l.val →
      ((s.load l).state ≠ .locked → exec .clear s = .next ((s.taken 0x03).completed .state))
      ∧ ((s.load l).state = .locked →
        let u := settleFor
          (fun j source => decide (∃ c : Chan, source = .change c ∧ s.config.servedLoad c = l
            ∧ (j = .autoRequest l ∨ j = .autoRelease l))) (s.taken 0x03)
        let asked : List Instr := match (s.config.channelsOf l).head? with
          | some c => if s.config.acting c && (s.chan c).present then [.autoRequest (s.config.servedLoad c)] else []
          | none => []
        ∃ t, exec .clear s = .next t
          ∧ (∀ d : Chan, t.chan d =
              if d ∈ s.config.channelsOf l then { s.chan d with lastFault := none } else s.chan d)
          ∧ t.posted = u.posted ++ asked
          ∧ t.sources = u.sources ++ asked.map (fun _ => .asked)
          ∧ t = ({ u with
              loads := u.loads.set l { state := .idle, attempts := 0, cooling := .stopped, stable := .stopped }
              chans := t.chans
              posted := t.posted
              sources := t.sources } : State).completed .done))

/-! ## The load sequencer -/

/-- R69: a grant creates the record in RISE and gives start ramp to the lead, or to the one channel, and wait turn to every other
member, each of which enters the out set. The model's choices: the list of events in flight (log 2); the order of orders within an
event (log 19); the order on a link (log 31). -/
def Obligations.GrantHandoverBeginsBringUp : Prop :=
  ∀ (l : Load) (lead : Chan) (others : List Chan) (s : State), s.running = true → s.older (.grantHandover l) = [] →
    s.config.channelsOf l = lead :: others →
    exec (.grantHandover l) s = .next { s with
      seq := s.seq.set l (some {
        phase := .rise, step := 0, stagger := .stopped, outSet := lead :: others, onSet := [], stalled := false
        drainReported := false })
      posted := s.posted.erase (.grantHandover l) ++ .startRamp lead :: others.map Instr.waitTurn }

/-- R70: in RISE, an ON report of the member at rank step completes the bring-up, starts the next member, or starts the stagger
timer, whose expiry starts it; a stalled record starts no member. Every other ON report and expiry is ignored. The model's
choices: the list of events in flight (log 2); timers in milliseconds (log 4); the order on a link (log 31). -/
def Obligations.BringUpGoesMemberByMember : Prop :=
  ∀ (l : Load) (s : State), s.running = true →
    (s.record l = none →
      (∀ c : Chan, s.config.servedLoad c = l → s.older (.channelOn c) = [] →
        exec (.channelOn c) s = .next (s.consume (.channelOn c)))
      ∧ exec (.staggerTimerExpiry l) s = .next (s.consume (.staggerTimerExpiry l)))
    ∧ ∀ r : SeqRecord, s.record l = some r →
    let members := s.config.channelsOf l
    let starts (i : Instr) (r : SeqRecord) : Prop :=
      exec i s = .next (match members[r.step + 1]? with
        | some m => { s with
            seq := s.seq.set l (some { r with
              step := r.step + 1, outSet := if m ∈ r.outSet then r.outSet else r.outSet ++ [m] })
            posted := s.posted.erase i ++ [.startRamp m] }
        | none => { s with seq := s.seq.set l (some r), posted := s.posted.erase i })
    (∀ c : Chan, s.config.servedLoad c = l → s.older (.channelOn c) = [] →
      let on := if c ∈ r.onSet then r.onSet else r.onSet ++ [c]
      (r.phase ≠ .rise ∨ members[r.step]? ≠ some c → exec (.channelOn c) s = .next (s.consume (.channelOn c)))
      ∧ (r.phase = .rise → members[r.step]? = some c →
        ((∀ m ∈ members, m ∈ on) → exec (.channelOn c) s = .next { s with
          seq := s.seq.set l (some { r with onSet := on, phase := .steady })
          posted := s.posted.erase (.channelOn c) ++ [.loadUp l] })
        ∧ (¬(∀ m ∈ members, m ∈ on) →
          (r.stalled = true → exec (.channelOn c) s = .next { s with
            seq := s.seq.set l (some { r with onSet := on }), posted := s.posted.erase (.channelOn c) })
          ∧ (r.stalled = false → s.config.staggerOf l = 0 → starts (.channelOn c) { r with onSet := on })
          ∧ (r.stalled = false → s.config.staggerOf l ≠ 0 → exec (.channelOn c) s = .next { s with
            seq := s.seq.set l (some { r with onSet := on, stagger := .running (s.config.staggerOf l) })
            posted := s.posted.erase (.channelOn c) }))))
    ∧ (r.phase = .rise → r.stagger ≠ .stopped →
      (r.stalled = false → starts (.staggerTimerExpiry l) { r with stagger := .stopped })
      ∧ (r.stalled = true → exec (.staggerTimerExpiry l) s = .next { s with
        seq := s.seq.set l (some { r with stagger := .stopped }), posted := s.posted.erase (.staggerTimerExpiry l) }))
    ∧ (r.phase ≠ .rise ∨ r.stagger = .stopped →
      exec (.staggerTimerExpiry l) s = .next (s.consume (.staggerTimerExpiry l)))

/-- R71, R74: a fall complete report takes the channel off the out set. In RISE it also leaves the on set and the record stalls;
in ORDERLY the awaited member's report orders the next fall or ends the descent; in IMMEDIATE the last one ends it. The model's
choices: the list of events in flight (log 2); the order on a link (log 31). -/
def Obligations.FallCompleteByPhase : Prop :=
  ∀ (c : Chan) (r : SeqRecord) (s : State), s.running = true → s.older (.fallComplete c) = [] →
    let l := s.config.servedLoad c
    let out := r.outSet.filter (· != c)
    let leaves (x : SeqRecord) (orders : List Instr) : Prop :=
      exec (.fallComplete c) s = .next { s with
        seq := s.seq.set l (some x), posted := s.posted.erase (.fallComplete c) ++ orders }
    (s.record l = none → exec (.fallComplete c) s = .next (s.consume (.fallComplete c)))
    ∧ (s.record l = some r →
      (r.phase = .rise →
        leaves { r with outSet := out, onSet := r.onSet.filter (· != c), stalled := true, stagger := .stopped } [])
      ∧ (r.phase ∈ [Phase.steady, .drain, .hold] → leaves { r with outSet := out } [])
      ∧ (r.phase = .orderly → (s.config.channelsOf l)[r.step]? ≠ some c → leaves { r with outSet := out } [])
      ∧ (r.phase = .orderly → (s.config.channelsOf l)[r.step]? = some c →
        leaves (s.lowered l { r with outSet := out }).1 [(s.lowered l { r with outSet := out }).2])
      ∧ (r.phase = .immediate →
        leaves { r with outSet := out } (if out = [] then [.descentEnded l] else [])))

/-- R73, R78: both descent orders stop the stagger timer and cancel the waiting members. An orderly descent order holds the record
while a descendant holds a reservation; otherwise the highest-ranked channel of the out set falls, or the descent has ended. A
trip order, in any phase but IMMEDIATE, gives fall to every channel left in the out set and enters IMMEDIATE, and an empty set
ends the descent, but where an orderly descent has ended it already; in IMMEDIATE it has nothing left to start. The model's
choices: the list of events in flight (log 2); the order of orders within an event (log 19); members that wait (log 21); the order
on a link (log 31); one report a descent (log 32). -/
def Obligations.DescentOrdersAtTheSequencer : Prop :=
  ∀ (l : Load) (s : State), s.running = true →
    let takes (i : Instr) (t : State) : Prop := s.older i = [] → exec i s = .next t
    (s.record l = none →
      takes (.orderlyDescentOrder l) (s.consume (.orderlyDescentOrder l))
      ∧ takes (.tripOrder l) (s.consume (.tripOrder l)))
    ∧ (∀ r : SeqRecord, s.record l = some r →
      let waiting := s.waiting l r
      let out := r.outSet.filter fun c => c ∉ waiting
      let cancelled : SeqRecord := { r with stagger := .stopped, outSet := out }
      let cancels (i : Instr) := s.posted.erase i ++ waiting.map Instr.cancelTurn
      (¬s.noHoldingDescendant l → takes (.orderlyDescentOrder l) { s with
        seq := s.seq.set l (some { cancelled with phase := .hold }), posted := cancels (.orderlyDescentOrder l) })
      ∧ (s.noHoldingDescendant l → takes (.orderlyDescentOrder l) { s with
        seq := s.seq.set l (some (s.lowered l cancelled).1)
        posted := cancels (.orderlyDescentOrder l) ++ [(s.lowered l cancelled).2] })
      ∧ (r.phase = .immediate → takes (.tripOrder l) (s.consume (.tripOrder l)))
      ∧ (r.phase ≠ .immediate → takes (.tripOrder l) { s with
        seq := s.seq.set l (some { cancelled with phase := .immediate })
        posted := cancels (.tripOrder l) ++ (if r.phase = .orderly ∧ r.outSet = [] then []
          else if out = [] then [.descentEnded l]
          else ((s.config.channelsOf l).filter fun c => c ∈ out).map Instr.fall) }))

/-- R76: a return report removes the load's record and examines the rest in load order: one in DRAIN or HOLD whose load has no
descendant left that holds a reservation reports "drain ended", unless it has done so, or begins its descent. It sends nothing
else. The model's choices: the list of events in flight (log 2); events that nobody sent (log 3); the order of orders within an
event (log 19); the order on a link (log 31). -/
def Obligations.ReturnReportReleasesTheHolds : Prop :=
  ∀ (l : Load) (s : State), s.running = true → s.older (.returnReport l) = [] →
    ∃ t, exec (.returnReport l) s = .next t
      ∧ (∀ x : Load, t.record x =
          if x = l then none
          else (s.record x).map fun r =>
            if s.noHoldingDescendant x then
              match r.phase with
              | .drain => { r with drainReported := true }
              | .hold => (s.lowered x r).1
              | .rise | .steady | .orderly | .immediate => r
            else r)
      ∧ t.posted = s.posted.erase (.returnReport l) ++ allLoads.flatMap (fun x =>
          match s.record x with
          | some r =>
            if x ≠ l ∧ s.noHoldingDescendant x then
              match r.phase with
              | .drain => if r.drainReported then [] else [.drainEnded x]
              | .hold => [(s.lowered x r).2]
              | .rise | .steady | .orderly | .immediate => []
            else []
          | none => [])
      ∧ t = { s with seq := t.seq, posted := t.posted }

/-- R77: "drain ended" starts the orderly descent of a DRAINING load, and a cancel drain returns a record from DRAIN to STEADY; in
every other state or phase each is ignored. The model's choices: the list of events in flight (log 2); the order on a link (log
31). -/
def Obligations.DrainEndsOrIsCancelled : Prop :=
  ∀ (l : Load) (s : State), s.running = true →
    let takes (i : Instr) (t : State) : Prop := s.older i = [] → exec i s = .next t
    ((s.load l).state = .draining → takes (.drainEnded l) { s with
      loads := s.loads.set l { s.load l with state := .descending .idle, stable := .stopped }
      posted := s.posted.erase (.drainEnded l) ++ [.orderlyDescentOrder l] })
    ∧ ((s.load l).state ≠ .draining → takes (.drainEnded l) (s.consume (.drainEnded l)))
    ∧ (∀ r : SeqRecord, s.record l = some r → r.phase = .drain → takes (.cancelDrain l) { s with
      seq := s.seq.set l (some { r with phase := .steady, drainReported := false })
      posted := s.posted.erase (.cancelDrain l) })
    ∧ ((∀ r : SeqRecord, s.record l = some r → r.phase ≠ .drain) →
      takes (.cancelDrain l) (s.consume (.cancelDrain l)))

/-! ## Lines and presence -/

/-- R42, R99, R113, R133: a line takes its level. On STBY and LOWSUP a new level starts the 2 ms qualification of a running part
where it differs from the level that the filter has settled on, and discards one where it does not. A level that has held for its
2 ms stays due. The model's choices: the 100 us filters (log 5); the 2 ms filters (log 6). -/
def Obligations.LineChangesQualify : Prop :=
  ∀ (c : Chan) (b : Bool) (s : State),
    let timer (x : SlowLine) : Timer := if s.running = true ∧ b ≠ x.due.getLast?.getD x.filtered then .running 2 else .stopped
    exec (.pgLineChange c b) s = .next { s with chans := s.chans.set c { s.chan c with pgLine := b } }
    ∧ exec (.fltNLineChange c b) s = .next { s with chans := s.chans.set c { s.chan c with fltLine := b } }
    ∧ exec (.detLineChange c b) s = .next { s with chans := s.chans.set c { s.chan c with detLine := b } }
    ∧ exec (.stbyLineChange b) s = .next (if s.stby.line = b then s
        else { s with stby := { s.stby with line := b, qualify := timer s.stby } })
    ∧ exec (.lowsupLineChange b) s = .next (if s.lowsup.line = b then s
        else { s with lowsup := { s.lowsup with line := b, qualify := timer s.lowsup } })

/-- R133, R134, R135: a filtered DET that differs from the debounced state starts the debounce, one that returns to it stops it; a
change whose line has returned is discarded. At the expiry, or at once where the debounce is 0, the channel attaches or detaches:
a notice outside MANUAL, and a request or a release of the load served where the channel is acting. The model's choices: the list
of events in flight (log 2); timers in milliseconds (log 4); the 100 us filters (log 5); notices stored within the event (log 7);
what overtakes no request (log 27). -/
def Obligations.PresenceIsDebounced : Prop :=
  ∀ (c : Chan) (b : Bool) (s : State), s.running = true →
    let ch := s.chan c
    let settles (i : Instr) (x : Channel) : Prop :=
      exec i s = .next { s with
        chans := s.chans.set c { x with present := x.det, debounce := .stopped }
        posted := s.posted.erase i
          ++ (if s.config.acting c then [if x.det then .autoRequest (s.config.servedLoad c)
              else .autoRelease (s.config.servedLoad c)] else [])
        sources := s.sources ++ (if s.config.acting c then [.change c] else [])
        fifo := s.fifoAfter (if (s.chanConfig c).detect = .manual then [] else [if x.det then .attach c else .detach c]) }
    let becomes (i : Instr) (x : Channel) : Prop :=
      exec i s = .next { s with chans := s.chans.set c x, posted := s.posted.erase i }
    let changed := { ch with det := b }
    (ch.det = b ∨ ch.detLine ≠ b → becomes (.detFilterChange c b) ch)
    ∧ (ch.det ≠ b → ch.detLine = b → ch.present = b → becomes (.detFilterChange c b) { changed with debounce := .stopped })
    ∧ (ch.det ≠ b → ch.detLine = b → ch.present ≠ b → (s.chanConfig c).debounce ≠ 0 →
      becomes (.detFilterChange c b) { changed with debounce := .running (s.chanConfig c).debounce.toNat })
    ∧ (ch.det ≠ b → ch.detLine = b → ch.present ≠ b → (s.chanConfig c).debounce = 0 → settles (.detFilterChange c b) changed)
    ∧ (ch.debounce ≠ .stopped → ch.det ≠ ch.present → settles (.debounceTimerExpiry c) ch)
    ∧ (ch.debounce ≠ .stopped → ch.det = ch.present →
      becomes (.debounceTimerExpiry c) { ch with debounce := .stopped })
    ∧ (ch.debounce = .stopped → becomes (.debounceTimerExpiry c) ch)

/-! ## The mailbox and the window -/

/-- R145 to R147, R149: in READY every CMD write is taken: the code, the argument copy and the sequence number are set, and it
completes at once, with its result and CMD_DONE, or goes on as a long command; failed checks hand nothing on. While BOOTING or
EXECUTING it is discarded with OVERRUN. -/
def Obligations.CommandWriteIsTakenOrLost : Prop :=
  ∀ (i : Instr) (code : Byte) (s : State), commandCode i = some code → s.phase = .released →
    (s.unit ≠ .ready → exec i s = .next { s with overrun := true })
    ∧ (s.unit = .ready →
      (∃ t, exec i s = .next t
        ∧ t.cmd = code ∧ t.args = s.args ∧ t.argCopy = s.args ∧ t.resultSeq = s.resultSeq + 1 ∧ t.overrun = s.overrun
        ∧ ((t.unit = .ready ∧ t.cmdDone = true)
          ∨ (∃ op, t.unit = .executing op) ∧ t.cmdDone = false ∧ t.result = s.result))
      ∧ (∀ x, i = .unknown x → exec i s = .next ((s.taken code).completed .unknown))
      ∧ (i ∈ [Instr.request, .release, .clear] → 12 ≤ s.args[0].toNat →
        exec i s = .next ((s.taken code).completed .badTarget))
      ∧ (i = .declareOff → 8 ≤ s.args[0].toNat → exec i s = .next ((s.taken code).completed .badTarget))
      ∧ (i = .setBudget →
        2047 < s.args[0].toNat + 256 * s.args[1].toNat
          ∨ s.args[0].toNat + 256 * s.args[1].toNat < s.args[2].toNat + 256 * s.args[3].toNat →
        exec i s = .next ((s.taken code).completed .range)))

/-- R155, R185: SNAPSHOT copies the clock, the mode, the account, the queue, the holders, every load and every channel into the
view area, and changes nothing else. -/
def Obligations.SnapshotCopiesThePart : Prop :=
  ∀ s : State, s.takesCommands →
    ∃ v : Snapshot, exec .snapshot s = .next (({ s.taken 0x20 with view := some v } : State).completed .done)
      ∧ v.time = s.clock ∧ v.mode = s.mode ∧ v.ceiling = s.ceiling ∧ v.committed = (s.holders.map (·.amount)).sum
      ∧ v.headroom = s.ceiling - v.committed ∧ v.queue = s.queue ∧ v.holders = s.holders ∧ v.resume = s.resume
      ∧ (∀ l : Load, v.loads[l] = ((s.load l).state, (s.load l).attempts))
      ∧ (∀ c : Chan, v.chans[c] = {
          state := (s.chan c).state
          lastFault := (s.chan c).lastFault
          stuck := (s.chan c).stuck
          enAsserted := (s.chan c).state == .ramp || (s.chan c).state == .on
          pg := (s.chan c).pg
          flt := (s.chan c).flt
          present := (s.chan c).present })

/-- R156, R192: SAVE_PROFILE fixes the buffer, the slot that is not active and the next generation, or fails with GEN_LIMIT; its
completion makes the verified slot active, or leaves it erased with STORE_FAULT. The model's choices: the list of events in flight
(log 2); outcomes as operands (log 16). -/
def Obligations.SaveProfileWritesTheOtherSlot : Prop :=
  ∀ (s : State),
    (s.takesCommands →
      let gen := match s.active with | none => (0 : Word16) | some .a => s.slotA.generation | some .b => s.slotB.generation
      (s.active ≠ none → gen = 65534 → exec .saveProfile s = .next ((s.taken 0x30).completed .genLimit))
      ∧ (s.active = none ∨ gen ≠ 65534 → exec .saveProfile s = .next { s.taken 0x30 with
        unit := .executing (.save s.config (if s.active = some .a then .b else .a) (gen + 1)) }))
    ∧ (∀ (buffer : Image) (target : SlotId) (gen : Word16) (matched : Bool), s.phase = .released →
      s.unit = .executing (.save buffer target gen) →
      ∃ t, exec (.saveProfileCompletion matched) s = .next t
        ∧ (if target = .a then t.slotA else t.slotB) =
          (if matched then { generation := gen, image := buffer, checkMatches := true } else Slot.erased)
        ∧ (if target = .a then t.slotB = s.slotB else t.slotA = s.slotA)
        ∧ t.active = (if matched then some target else s.active)
        ∧ t.shown = t.slotInfo
        ∧ t = { s with
            posted := s.posted.erase (.saveProfileCompletion matched)
            slotA := t.slotA, slotB := t.slotB, active := t.active, shown := t.shown
            result := if matched then .done else .storeFault
            cmdDone := true
            unit := .ready })

/-- R156, R157, R194, R195, R21: ERASE_PROFILES erases both slots at its completion. REVERT is taken only while the arbiter is
HALTED and committed is 0; its completion brings the active slot's configuration, or the defaults, sets each load by the new
membership, recomputes the ceiling, and asks again for the channels that become acting. The return reports in flight, and requests
of the detect unit in flight for loads that become ABSORBED or VOID, are taken before. The model's choices: the list of events in
flight (log 2); what overtakes no request (log 27); the order at REVERT (log 28); slots that keep matching (log 29); the order on
a link (log 31). -/
def Obligations.EraseAndRevert : Prop :=
  ∀ (s : State),
    (s.takesCommands →
      exec .eraseProfiles s = .next { s.taken 0x31 with unit := .executing .erase }
      ∧ (s.halted = true → s.committed = 0 → exec .revert s = .next { s.taken 0x32 with unit := .executing .revert })
      ∧ (s.halted = false ∨ s.committed ≠ 0 → exec .revert s = .next ((s.taken 0x32).completed .state)))
    ∧ (s.phase = .released → s.unit = .executing .erase →
      ∃ t, exec .eraseProfilesCompletion s = .next t
        ∧ t.slotA.generation = 0xFFFF ∧ t.slotA.valid = false ∧ t.slotB.generation = 0xFFFF ∧ t.slotB.valid = false
        ∧ t.active = none ∧ t.shown = t.slotInfo
        ∧ t = { s with
            posted := s.posted.erase .eraseProfilesCompletion
            slotA := t.slotA, slotB := t.slotB, active := t.active, shown := t.shown
            result := .done, cmdDone := true, unit := .ready })
    ∧ (s.phase = .released → s.unit = .executing .revert →
      let source : Image × Option SlotId :=
        if s.active = some .a ∧ s.slotA.valid = true then (s.slotA.image, some .a)
        else if s.active = some .b ∧ s.slotB.valid = true then (s.slotB.image, some .b)
        else (Image.factory, none)
      let u := settleFor (fun j _ => decide (∃ l : Load, source.1.offered l = false ∧ j = .autoRequest l))
        (settleFor (fun j _ => decide (∃ l : Load, j = .returnReport l))
          { s with posted := s.posted.erase .revertCompletion })
      let newly := allChans.filter fun c => !u.config.acting c && source.1.acting c && (u.chan c).present
      ∃ t, exec .revertCompletion s = .next t
        ∧ (t.config, t.active) = source
        ∧ (∀ l : Load, t.load l =
            if t.config.offered l = false then
              { state := if l.val < 8 then .absorbed else .void, attempts := 0, cooling := .stopped, stable := .stopped }
            else if (u.load l).state = .absorbed ∨ (u.load l).state = .void then
              { state := .idle, attempts := 0, cooling := .stopped, stable := .stopped }
            else u.load l)
        ∧ t.ceiling = (if u.lowsup.filtered then t.config.reduced else t.config.full)
        ∧ t.resume = u.resume.filter t.config.offered
        ∧ t.posted = u.posted ++ newly.map (fun c => Instr.autoRequest (source.1.servedLoad c))
        ∧ t.sources = u.sources ++ newly.map (fun _ => .revert)
        ∧ t.shown = t.slotInfo
        ∧ t = { u with
            sources := t.sources, config := t.config, active := t.active, loads := t.loads, ceiling := t.ceiling, resume := t.resume
            posted := t.posted, shown := t.shown, result := .done, cmdDone := true, unit := .ready })

/-- R148, R164, R168, R174 to R180, R182, R183, R185, R186: the reads with a side effect. RESULT clears CMD_DONE; DATA moves the
index on; CLOCK_LO fills the latch of CLOCK_HI; NOTICE moves the cursor on and pops the head at its fifth byte. Each drives its
byte: RESULT its code, NOTICE the kind, subject, detail and time of the head record. DATA reads the fields of the records and
settings at their places, 00h at an undefined byte, and 00h in all of them while the configuration is being loaded. The
information region and the view area read as usual meanwhile: the identification, the slots, the reset cause, the filtered lines
and the last rejected write, and the copy of the last SNAPSHOT, 00h before the first. The model's choices: reads as functions (log
17). -/
def Obligations.ReadsWithSideEffects : Prop :=
  ∀ s : State, s.phase = .released →
    (let result : ResultCode → Byte := fun
        | .done => 0x00 | .accepted => 0x01 | .already => 0x02 | .unknown => 0x10 | .badTarget => 0x11 | .member => 0x12
        | .empty => 0x13 | .disabled => 0x14 | .oversize => 0x15 | .locked => 0x16 | .halted => 0x17 | .state => 0x18
        | .range => 0x19 | .genLimit => 0x1A | .storeFault => 0x1B | .none => 0xFF
      let load (l : Load) : Byte := BitVec.ofNat 8 l.val
      let chan (c : Chan) : Byte := BitVec.ofNat 8 c.val
      exec .resultRead s = .next { s with busOut := some (result s.result), cmdDone := false }
      ∧ ∀ r : Record, (List.finRange 5).map (recordByte r) =
        (match r.notice with
          | .granted l o => [0x01, load l,
            match o with | .host => 0 | .auto => 1 | .boot => 2 | .retry => 3 | .requeue => 4 | .wake => 5]
          | .loadUp l => [0x02, load l, 0]
          | .loadDown l d => [0x03, load l, match d with | .idle => 0 | .queued => 1 | .cooling => 6 | .locked => 7]
          | .fault c x => [0x04, chan c, match x with | .overcurrent => 1 | .rampTimeout => 2 | .pgLost => 3]
          | .shed l => [0x05, load l, 0]
          | .pgStuck c => [0x06, chan c, 0]
          | .strayPg c => [0x07, chan c, 0]
          | .attach c => [0x08, chan c, 0]
          | .detach c => [0x09, chan c, 0]
          | .refused l x => [0x0A, load l, result x]
          | .mode m => [0x0B, 0xFF, match m with | .run => 0 | .shed => 1 | .standby => 2 | .standbyShed => 3 | .halted => 4]
          | .boot x => [0x0C, 0xFF, match x with | .defaults => 0 | .slotA => 1 | .slotB => 2]
          | .overflow n => [0x0F, 0xFF, BitVec.ofNat 8 n])
        ++ [BitVec.ofNat 8 r.time.toNat, BitVec.ofNat 8 (r.time.toNat / 256)])
    ∧ exec .dataRead s = .next { s with busOut := some (s.dataByte s.index), index := s.index + 1 }
    ∧ exec .clockLoRead s = .next { s with
        busOut := some (BitVec.ofNat 8 s.clock.toNat), clockLatch := BitVec.ofNat 8 (s.clock.toNat / 256) }
    ∧ (s.fifo = [] → exec .noticeRead s = .next { s with busOut := some 0 })
    ∧ (∀ (r : Record) (rest : List Record), s.fifo = r :: rest →
      (s.cursor ≠ 4 → exec .noticeRead s = .next { s with busOut := some (recordByte r s.cursor), cursor := s.cursor + 1 })
      ∧ (s.cursor = 4 → exec .noticeRead s = .next { s with
        busOut := some (recordByte r 4), fifo := rest, cursor := 0 }))
    ∧ (∀ index : Word16,
      let n := index.toNat
      (s.loading = true → 0x100 ≤ n → n < 0x800 → s.dataByte index = 0)
      ∧ (¬(n < 0x14 ∧ n ≠ 0x0F) → ¬(0x100 ≤ n ∧ n < 0x180 ∧ n % 16 < 9) → ¬(0x200 ≤ n ∧ n < 0x2C0 ∧ n % 16 < 8) →
        ¬(0x300 ≤ n ∧ n < 0x340 ∧ n % 16 < 10) → ¬(0x400 ≤ n ∧ n < 0x408) → ¬(0x800 ≤ n ∧ n < 0x900) →
        s.dataByte index = 0))
    ∧ (s.loading = false →
      let at_ (base k : Nat) : Byte := s.dataByte (BitVec.ofNat 16 (base + k))
      (∀ c : Chan, let r := s.chanConfig c
        (List.range 9).map (at_ (0x100 + 16 * c.val)) =
          [if r.enabled then 1 else 0, r.claim, r.rampTimeout, r.dischargeTime, r.debounce,
            match r.detect with | .manual => 0 | .notify => 1 | .auto => 2,
            match r.polarity with | .activeHigh => 0 | .activeLow => 1,
            numberByte (s.config.groupOf c), match s.config.rankOf c with | some k => BitVec.ofNat 8 k | none => 0xFF])
      ∧ (∀ l : Load, let r := s.loadConfig l
        (List.range 8).map (at_ (0x200 + 16 * l.val)) =
          [BitVec.ofNat 8 r.priority.val, numberByte r.parent, BitVec.ofNat 8 r.retryLimit.val, r.coolDownBase, r.stableTime,
            BitVec.ofNat 8 (r.bootOn.toNat + 2 * r.requeueAfterShed.toNat + 4 * r.keepInStandby.toNat
              + 8 * r.resumeAfterStandby.toNat),
            BitVec.ofNat 8 (s.config.claimOf l), BitVec.ofNat 8 (s.config.claimOf l / 256)])
      ∧ (∀ g : Group, let r := s.config.groups[g]
        (List.range 10).map (at_ (0x300 + 16 * g.val)) =
          (List.range 8).map (fun k => numberByte r.members[k]?) ++ [r.stagger, BitVec.ofNat 8 r.members.length])
      ∧ (List.range 8).map (at_ 0x400) =
          [s.config.spacing, BitVec.ofNat 8 s.config.mask.toNat, BitVec.ofNat 8 (s.config.mask.toNat / 256),
            BitVec.ofNat 8 s.config.full, BitVec.ofNat 8 (s.config.full / 256),
            BitVec.ofNat 8 s.config.reduced, BitVec.ofNat 8 (s.config.reduced / 256), BitVec.ofNat 8 s.config.overtake])
    ∧ (let at_ (base k : Nat) : Byte := s.dataByte (BitVec.ofNat 16 (base + k))
      let word (n : Nat) : List Byte := [BitVec.ofNat 8 n, BitVec.ofNat 8 (n / 256)]
      let bit (b : Bool) : Byte := if b then 1 else 0
      let cause : FaultCause → Byte := fun | .overcurrent => 1 | .rampTimeout => 2 | .pgLost => 3
      let slot : Option SlotId → Byte := fun | none => 0 | some .a => 1 | some .b => 2
      let reset : ResetCause → Byte := fun | .powerOn => 1 | .pin => 2
      let reason : Reason → Byte := fun
        | .none => 0 | .readOnly => 1 | .undefined => 2 | .state => 3 | .range => 4 | .cycle => 5 | .duplicate => 6
        | .inUse => 7 | .booting => 8
      let mode : Mode → Byte := fun | .run => 0 | .shed => 1 | .standby => 2 | .standbyShed => 3 | .halted => 4
      let origin : Origin → Byte := fun
        | .host => 0 | .auto => 1 | .boot => 2 | .retry => 3 | .requeue => 4 | .wake => 5
      let loadState : LoadState → Byte := fun
        | .idle => 0 | .queued => 1 | .rising => 2 | .up => 3 | .draining => 4 | .descending _ => 5 | .cooling => 6
        | .locked => 7 | .absorbed => 8 | .void => 9
      let destination : LoadState → Byte := fun
        | .descending .idle => 0 | .descending .requeue => 1 | .descending .retry => 2 | _ => 0xFF
      let chanState : ChanState → Byte := fun | .off => 0 | .waitTurn => 1 | .ramp => 2 | .on => 3 | .fall => 4
      let undefined (n : Nat) : List Byte := List.replicate n 0
      let entry : Option Entry → List Byte := fun
        | none => undefined 4
        | some e => [BitVec.ofNat 8 e.load.val, BitVec.ofNat 8 e.priority.val, origin e.origin, BitVec.ofNat 8 e.overtaken]
      let holder : Option Holder → List Byte := fun
        | none => undefined 3
        | some h => BitVec.ofNat 8 h.load.val :: word h.amount
      let fault : Option FaultCause → Byte := fun | none => 0 | some x => cause x
      let number : Option Load → Byte := fun | none => 0 | some l => BitVec.ofNat 8 l.val
      (List.range 20).map (at_ 0) =
        ([0x4C, 0x01, 8, 4, 12, 16, slot s.shown.active, bit s.shown.validA] : List Byte)
          ++ word s.shown.generationA.toNat ++ [bit s.shown.validB] ++ word s.shown.generationB.toNat
          ++ [reset s.resetCause, bit s.stby.filtered + 2 * bit s.lowsup.filtered, 0, bit s.wrej]
          ++ word s.rejIndex.toNat ++ [reason s.rejReason]
      ∧ (s.view = none → (List.range 256).map (at_ 0x800) = undefined 256)
      ∧ (∀ v : Snapshot, s.view = some v → (List.range 256).map (at_ 0x800) =
          word v.time.toNat ++ [mode v.mode] ++ word v.ceiling ++ word v.committed ++ word v.headroom
            ++ [BitVec.ofNat 8 v.queue.length] ++ undefined 6
            ++ (List.range 12).flatMap (fun i => entry v.queue[i]?)
            ++ [BitVec.ofNat 8 v.holders.length]
            ++ (List.range 12).flatMap (fun i => holder v.holders[i]?)
            ++ undefined 11
            ++ allLoads.flatMap (fun l =>
              [loadState (v.loads[l]).1, destination (v.loads[l]).1, BitVec.ofNat 8 (v.loads[l]).2])
            ++ undefined 12
            ++ allChans.flatMap (fun c => let ch := v.chans[c]
              [chanState ch.state, fault ch.lastFault, bit ch.stuck,
                bit ch.enAsserted + 2 * bit ch.pg + 4 * bit ch.flt + 8 * bit ch.present])
            ++ [BitVec.ofNat 8 v.resume.length]
            ++ (List.range 12).map (fun i => number v.resume[i]?)
            ++ undefined 51))

/-- R165: a write of any value to NOTICE returns the cursor to byte 1 and pops nothing. -/
def Obligations.NoticeWriteReturnsTheCursor : Prop :=
  ∀ (v : Byte) (s : State), s.phase = .released →
    exec (.noticeCursorWrite v) s = .next { s with cursor := 0 }
    ∧ (s.cursor = 0 → exec (.noticeCursorWrite v) s = .next s)

/-- R144, R148, R163, R168, R172, R175: writes to ARG0 to ARG3 and to the index store the byte, a 1 to STATUS.OVERRUN clears it,
and writes to RESULT, RESULT_SEQ, NOTICE_LEVEL, CLOCK_LO and CLOCK_HI have no effect. -/
def Obligations.PlainRegisterWrites : Prop :=
  ∀ (v : Byte) (s : State), s.phase = .released →
    (∃ t, exec (.registerWrite .arg0 v) s = .next t ∧ t = { s with args := #v[v, s.args[1], s.args[2], s.args[3]] })
    ∧ (∃ t, exec (.registerWrite .arg1 v) s = .next t ∧ t = { s with args := #v[s.args[0], v, s.args[2], s.args[3]] })
    ∧ (∃ t, exec (.registerWrite .arg2 v) s = .next t ∧ t = { s with args := #v[s.args[0], s.args[1], v, s.args[3]] })
    ∧ (∃ t, exec (.registerWrite .arg3 v) s = .next t ∧ t = { s with args := #v[s.args[0], s.args[1], s.args[2], v] })
    ∧ (∃ t, exec (.registerWrite .indexLo v) s = .next t
      ∧ t.index.toNat = s.index.toNat / 256 * 256 + v.toNat ∧ t = { s with index := t.index })
    ∧ (∃ t, exec (.registerWrite .indexHi v) s = .next t
      ∧ t.index.toNat = v.toNat * 256 + s.index.toNat % 256 ∧ t = { s with index := t.index })
    ∧ (∀ r ∈ [Register.result, .resultSeq, .noticeLevel, .clockLo, .clockHi],
      exec (.registerWrite r v) s = .next s)
    ∧ (v.getLsbD 4 = true → exec (.statusOverrunClear v) s = .next { s with overrun := false })
    ∧ (v.getLsbD 4 = false → exec (.statusOverrunClear v) s = .next s)
    ∧ (v.getLsbD 4 = false → exec (.registerWrite .status v) s = .next s)

/-- R43, R44, R129, R169, R171, R172, R173, R174: EN is high-impedance without power and until the boot load has ended, and then
asserted exactly in RAMP and ON, under the polarity of the channel record; INT_N is asserted while a notice waits with NIE set or
a result with DIE set; STATUS and CONTROL show their flags and the reported mode, which follows from the three facets. A read
cycle drives the value of the register at its offset, and each read or write cycle is the command of that register; a CMD write is
the command of its code. The model's choices: reads as functions (log 17); the phase without power (log 25). -/
def Obligations.LinesAndStatusShowTheState : Prop :=
  ∀ (c : Chan) (s : State),
    let asserted : Prop := (s.chan c).state = .ramp ∨ (s.chan c).state = .on
    (s.running = false → s.enPin c = .highImpedance)
    ∧ (s.running = true → ∀ level, s.enPin c = level ↔ level =
        match (s.chanConfig c).polarity with
        | .activeHigh => if asserted then PinLevel.high else .low
        | .activeLow => if asserted then PinLevel.low else .high)
    ∧ (s.intAsserted = true ↔ s.fifo ≠ [] ∧ s.nie = true ∨ s.cmdDone = true ∧ s.die = true)
    ∧ (s.phase = .released →
      s.statusByte.getLsbD 0 = s.cmdDone
      ∧ (s.statusByte.getLsbD 1 = true ↔ s.fifo ≠ [])
      ∧ (s.statusByte.getLsbD 2 = true ↔ ∃ op, s.unit = .executing op)
      ∧ (s.statusByte.getLsbD 3 = true ↔ s.unit = .booting)
      ∧ s.statusByte.getLsbD 4 = s.overrun
      ∧ s.statusByte.toNat / 32 = (match s.mode with
          | .run => 0 | .shed => 1 | .standby => 2 | .standbyShed => 3 | .halted => 4)
      ∧ s.controlByte.getLsbD 0 = s.nie ∧ s.controlByte.getLsbD 1 = s.die ∧ s.controlByte.getLsbD 2 = s.halted
      ∧ s.controlByte.toNat < 8)
    ∧ s.mode = (match s.halted, s.stby.filtered, decide (s.ceiling < (s.holders.map (·.amount)).sum) with
        | true, _, _ => .halted
        | false, false, false => .run
        | false, false, true => .shed
        | false, true, false => .standby
        | false, true, true => .standbyShed)
    ∧ (s.phase ≠ .released → ∀ k, s.readCycleByte k = none)
    ∧ (s.phase = .released → (List.finRange 16).map s.readCycleByte =
        [s.statusByte, s.controlByte, s.cmd, s.args[0], s.args[1], s.args[2], s.args[3], resultByte s.result, s.resultSeq,
          BitVec.ofNat 8 s.index.toNat, BitVec.ofNat 8 (s.index.toNat / 256), s.dataByte s.index,
          match s.fifo with | [] => 0 | r :: _ => recordByte r s.cursor,
          BitVec.ofNat 8 s.fifo.length, BitVec.ofNat 8 s.clock.toNat, s.clockLatch].map some)
    ∧ (List.finRange 16).map readCycle =
        [none, none, none, none, none, none, none, some .resultRead, none, none, none, some .dataRead, some .noticeRead, none,
          some .clockLoRead, none]
    ∧ (∀ v : Byte, commandCode (writeCycle 2 v) = some v
      ∧ (∀ x, writeCycle 2 v = .unknown x →
        v.toNat ∉ [0x01, 0x02, 0x03, 0x04, 0x10, 0x11, 0x12, 0x20, 0x30, 0x31, 0x32])
      ∧ writeCycle 0 v = (if v.getLsbD 4 then .statusOverrunClear v else .registerWrite .status v)
      ∧ writeCycle 1 v = (if v.getLsbD 2 then .haltRequest v else .nieDieWrite v)
      ∧ ((List.finRange 16).map fun k => writeCycle k v).drop 3 =
        [.registerWrite .arg0 v, .registerWrite .arg1 v, .registerWrite .arg2 v, .registerWrite .arg3 v,
          .registerWrite .result v, .registerWrite .resultSeq v, .registerWrite .indexLo v, .registerWrite .indexHi v,
          .dataWrite v, .noticeCursorWrite v, .registerWrite .noticeLevel v, .registerWrite .clockLo v,
          .registerWrite .clockHi v])

/-- R2, R45, R63 to R66, R138, R139, R141, R178 to R182: what a DATA write does, by the byte at the index. The first check that
fails refuses it with its reason: BOOTING, UNDEFINED, READ_ONLY, then the byte's own checks in their order; WREJ is set with the
index and the reason, and nothing else changes. An accepted write replaces the byte, which then reads back, with its effect: the
loads that a membership write makes ABSORBED, VOID or IDLE, the resume list they leave, and a re-presentation. Each moves the
index on. The requests of the detect unit that it may not overtake are taken first. The model's choices: the list of events in
flight (log 2); what overtakes no request (log 27). -/
def Obligations.DataWriteIsRefusedOrReadsBack : Prop :=
  ∀ (v : Byte) (s : State), s.phase = .released →
    let u := settleForWrite v s
    let ends (x : State) : Prop := exec (.dataWrite v) s = .next { x with index := s.index + 1 }
    let refused (reason : Reason) : Prop := ends { u with wrej := true, rejIndex := s.index, rejReason := reason }
    let configured (img : Image) : State := { u with config := img }
    let chanField (c : Chan) (ok : Prop) (r : ChannelConfig) (asked : List Instr) : Prop :=
      ((u.load (u.config.servedLoad c)).state ∉ [LoadState.idle, .locked] → refused .state)
      ∧ ((u.load (u.config.servedLoad c)).state ∈ [LoadState.idle, .locked] →
        (¬ok → refused .range)
        ∧ (ok → ends { configured { u.config with channels := u.config.channels.set c r } with
            posted := u.posted ++ asked, sources := u.sources ++ asked.map fun _ => .asked }))
    let loadField (l : Load) (ok : Prop) (r : LoadConfig) : Prop :=
      ((u.load l).state ∉ [LoadState.idle, .locked, .absorbed, .void] → refused .state)
      ∧ ((u.load l).state ∈ [LoadState.idle, .locked, .absorbed, .void] →
        (¬ok → refused .range)
        ∧ (ok → ends (configured { u.config with loads := u.config.loads.set l r })))
    let groupIs (g : Group) (r : GroupConfig) : Image := { u.config with groups := u.config.groups.set g r }
    let closed (g : Group) : Prop := (u.load (groupLoad g)).state ∉ [LoadState.idle, .locked, .void]
    let fresh (st : LoadState) : LoadRun := { state := st, attempts := 0, cooling := .stopped, stable := .stopped }
    (s.loading = true → refused .booting)
    ∧ (s.loading = false →
      match locate s.index with
      | .undefined => refused .undefined
      | .info _ | .view _ | .memberCount _ | .fullLow | .fullHigh | .reducedLow | .reducedHigh | .overtake => refused .readOnly
      | .wrej => ends (if v.getLsbD 0 then { u with wrej := false } else u)
      | .spacing => ends (configured { u.config with spacing := v })
      | .maskLow => ends (configured { u.config with mask := BitVec.ofNat 12 (u.config.mask.toNat / 256 * 256 + v.toNat) })
      | .maskHigh =>
        (16 ≤ v.toNat → refused .range)
        ∧ (v.toNat < 16 → ends (configured { u.config with
            mask := BitVec.ofNat 12 (v.toNat * 256 + u.config.mask.toNat % 256) }))
      | .chan c f =>
        let r := u.chanConfig c
        match f with
        | .enabled => chanField c (v = 0 ∨ v = 1) { r with enabled := v == 1 } []
        | .claim => chanField c (v ≠ 0) { r with claim := v } []
        | .rampTimeout => chanField c (v ≠ 0) { r with rampTimeout := v } []
        | .dischargeTime => chanField c (v ≠ 0) { r with dischargeTime := v } []
        | .debounce => chanField c True { r with debounce := v } []
        | .detect =>
          let leads : Prop := ∀ g, u.config.groupOf c = some g → (u.config.groups[g]).members.head? = some c
          (v ≠ 2 ∨ r.detect = .auto ∨ (u.chan c).present = false ∨ ¬leads →
            chanField c (v.toNat ≤ 2)
              { r with detect := if v = 0 then .manual else if v = 1 then .notify else .auto } [])
          ∧ (v = 2 → r.detect ≠ .auto → (u.chan c).present = true → leads →
            chanField c True { r with detect := .auto } [.autoRequest (u.config.servedLoad c)])
        | .polarity => chanField c (v = 0 ∨ v = 1) { r with polarity := if v = 0 then .activeHigh else .activeLow } []
        | .group | .rank => refused .readOnly
      | .load l f =>
        let r := u.loadConfig l
        let leadsTo (p : Load) : Prop :=
          ∃ n, n ≤ 12 ∧ (fun x : Option Load => x.bind fun y => (u.loadConfig y).parent)^[n] (some p) = some l
        match f with
        | .priority => loadField l (v.toNat < 8) { r with priority := Fin.ofNat 8 v.toNat }
        | .parent =>
          (12 ≤ v.toNat → loadField l (v = 0xFF) { r with parent := none })
          ∧ (∀ p : Load, v.toNat = p.val →
            ((u.load l).state ∉ [LoadState.idle, .locked, .absorbed, .void] → refused .state)
            ∧ ((u.load l).state ∈ [LoadState.idle, .locked, .absorbed, .void] →
              (p = l → refused .cycle)
              ∧ (p ≠ l → (u.load p).state = .absorbed → refused .inUse)
              ∧ (p ≠ l → (u.load p).state ≠ .absorbed → leadsTo p → refused .cycle)
              ∧ (p ≠ l → (u.load p).state ≠ .absorbed → ¬leadsTo p →
                ends (configured { u.config with loads := u.config.loads.set l { r with parent := some p } }))))
        | .retryLimit => loadField l (v.toNat < 8) { r with retryLimit := Fin.ofNat 8 v.toNat }
        | .coolDownBase => loadField l (v ≠ 0) { r with coolDownBase := v }
        | .stableTime => loadField l (v ≠ 0) { r with stableTime := v }
        | .flags => loadField l (v.toNat < 16) { r with
            bootOn := v.getLsbD 0, requeueAfterShed := v.getLsbD 1, keepInStandby := v.getLsbD 2
            resumeAfterStandby := v.getLsbD 3 }
        | .claimLow | .claimHigh => refused .readOnly
      | .stagger g =>
        (closed g → refused .state)
        ∧ (¬closed g → ends (configured (groupIs g { u.config.groups[g] with stagger := v })))
      | .slot g k =>
        let r := u.config.groups[g]
        let members := r.members
        (v = 0xFF →
          (closed g → refused .state)
          ∧ (¬closed g → members.length ≤ k.val → ends u)
          ∧ (¬closed g → k.val < members.length → ends { configured (groupIs g { r with members := members.take k.val }) with
              loads := Vector.ofFn fun x =>
                if k.val = 0 ∧ x = groupLoad g then fresh .void
                else if ∃ d ∈ members.drop k.val, x = ownLoad d then fresh .idle
                else u.load x
              resume := if k.val = 0 then u.resume.filter (· != groupLoad g) else u.resume }))
        ∧ (v ≠ 0xFF → 8 ≤ v.toNat ∨ members.length < k.val → refused .range)
        ∧ (∀ c : Chan, v.toNat = c.val → k.val ≤ members.length →
          let elsewhere : Prop := ∃ h : Group, c ∈ (u.config.groups[h]).members
          let named : Prop := ∃ x : Load, (u.loadConfig x).parent = some (ownLoad c)
          let asks : Bool := k.val == 0 && (u.chanConfig c).detect == .auto && (u.chan c).present
          (closed g → refused .state)
          ∧ (¬closed g → members[k.val]? = some c → ends u)
          ∧ (¬closed g → members[k.val]? ≠ some c →
            (elsewhere → refused .duplicate)
            ∧ (¬elsewhere → (u.load (ownLoad c)).state ≠ .idle → refused .state)
            ∧ (¬elsewhere → (u.load (ownLoad c)).state = .idle → named → refused .inUse)
            ∧ (¬elsewhere → (u.load (ownLoad c)).state = .idle → ¬named →
              ends { configured (groupIs g { r with members := members.take k.val ++ c :: members.drop (k.val + 1) }) with
                loads := Vector.ofFn fun x =>
                  if x = ownLoad c then fresh .absorbed
                  else if members[k.val]?.map ownLoad = some x then fresh .idle
                  else if x = groupLoad g ∧ (u.load x).state = .void then fresh .idle
                  else u.load x
                resume := u.resume.filter (· != ownLoad c)
                posted := u.posted ++ (if asks then [.autoRequest (groupLoad g)] else [])
                sources := u.sources ++ (if asks then [.asked] else []) }))))
    ∧ (checkWrite u (locate s.index) v = none → s.index ≠ 0x0010 →
      ∃ t, exec (.dataWrite v) s = .next t ∧ t.dataByte s.index = v)

/-! ## Notices, time, reset and the boot load -/

/-- R161, R162: a notice that the mask disables leaves no trace; with at most fourteen records it is stored with the clock; beyond
that an open OVERFLOW record at the tail counts it, up to 255, or a new one is stored in the sixteenth place. The model's choices:
notices stored within the event (log 7). -/
def Obligations.NoticeHandoverFillsTheFifo : Prop :=
  ∀ (n : Notice) (s : State), s.running = true → n.wellFormed = true →
    let u := s.consume (.noticeHandover n)
    (s.config.mask.getLsbD (kindCode n - 1) = false → exec (.noticeHandover n) s = .next u)
    ∧ (s.config.mask.getLsbD (kindCode n - 1) = true →
      (s.fifo.length ≤ 14 →
        exec (.noticeHandover n) s = .next { u with fifo := s.fifo ++ [{ notice := n, time := s.clock }] })
      ∧ (∀ (held : List Record) (k : Nat) (time : Word16),
        s.fifo = held ++ [{ notice := .overflow k, time := time }] → 15 ≤ s.fifo.length →
        exec (.noticeHandover n) s = .next { u with
          fifo := held ++ [{ notice := .overflow (if k < 255 then k + 1 else 255), time := time }] })
      ∧ (∀ (held : List Record) (r : Record), s.fifo = held ++ [r] → kindCode r.notice ≠ 15 → s.fifo.length = 15 →
        exec (.noticeHandover n) s = .next { u with fifo := s.fifo ++ [{ notice := .overflow 1, time := s.clock }] }))

/-- R99, R113, R167: a millisecond out of reset raises the clock by 1, with its wrap, counts down every running timer, and makes a
level of STBY or LOWSUP due that has held for its 2 ms; while reset is held the clock stands. The model's choices: timers in
milliseconds (log 4); the 2 ms filters (log 6). -/
def Obligations.ClockTickCountsAMillisecond : Prop :=
  ∀ s : State,
    let counted (x : Timer) : Timer := match x with | .stopped => .stopped | .running n => .running (n - 1)
    let held (x : SlowLine) : SlowLine :=
      match x.qualify with
      | .stopped => x
      | .running n =>
        if n ≤ 1 then { x with qualify := .stopped, due := x.due ++ [x.line] } else { x with qualify := .running (n - 1) }
    (s.phase ≠ .released → exec .clockTick s = .next s)
    ∧ (s.phase = .released →
      ∃ t, exec .clockTick s = .next t
        ∧ t.clock.toNat = (if s.clock.toNat = 65535 then 0 else s.clock.toNat + 1)
        ∧ (∀ c : Chan, t.chan c = { s.chan c with
            ramp := counted (s.chan c).ramp
            debounce := counted (s.chan c).debounce
            discharge := match (s.chan c).discharge with | .running n => .running (n - 1) | x => x })
        ∧ (∀ l : Load, t.load l = { s.load l with
            cooling := counted (s.load l).cooling, stable := counted (s.load l).stable })
        ∧ (∀ l : Load, t.record l = (s.record l).map fun r => { r with stagger := counted r.stagger })
        ∧ t.descent = (match s.descent with | .spacing n => .spacing (n - 1) | x => x)
        ∧ t.stby = held s.stby
        ∧ t.lowsup = held s.lowsup
        ∧ t = { s with
            clock := t.clock, chans := t.chans, loads := t.loads, seq := t.seq, descent := t.descent, stby := t.stby
            lowsup := t.lowsup })

/-- R21, R40, R61, R81, R100, R132, R142, R143, R188, R193, R194: a power-on reset, a RESET_N reset of a released part and a loss
of power leave every item of runtime state at its reset value, whatever was in flight; the pins keep their levels. A save in
flight leaves the other slot as it was and its target invalid, or complete where the final write had matched; an erase leaves the
slot being erased invalid, slot B first; otherwise the slots keep their contents. The release starts the clock and the boot load;
the cause is kept. The model's choices: the pins at reset (log 9); the factory defaults until the boot load has ended (log 11);
values before the boot load (log 12); the interrupted generation (log 15); outcomes as operands (log 16); the phase without power
(log 25). -/
def Obligations.ResetsAbandonEverything : Prop :=
  ∀ (p : StoreProgress) (s : State),
    (∀ i phase, (i = Instr.powerOnReset p ∧ phase = PowerPhase.held .powerOn
        ∨ i = .pinReset p ∧ s.phase = .released ∧ phase = .held .pin ∨ i = .powerLoss p ∧ phase = .unpowered) →
      ∃ t, exec i s = .next t
        ∧ (∀ c : Chan, t.chan c = { State.reset.chan c with
            pgLine := (s.chan c).pgLine, fltLine := (s.chan c).fltLine, detLine := (s.chan c).detLine })
        ∧ t.stby = { line := s.stby.line, filtered := false, qualify := .stopped, due := [] }
        ∧ t.lowsup = { line := s.lowsup.line, filtered := false, qualify := .stopped, due := [] }
        ∧ ((∀ b x g, s.unit ≠ .executing (.save b x g)) → s.unit ≠ .executing .erase →
          t.slotA = s.slotA ∧ t.slotB = s.slotB ∧ t.freeCount = s.freeCount)
        ∧ (∀ buffer target generation, s.unit = .executing (.save buffer target generation) →
          (if target = .a then t.slotB = s.slotB else t.slotA = s.slotA)
          ∧ (let slot := if target = .a then t.slotA else t.slotB
            if p.save = .finalMatched then
              slot = { generation := generation, image := buffer, checkMatches := true } ∧ t.freeCount = s.freeCount
            else slot.valid = false ∧ t.freeCount = s.freeCount + 1
              ∧ slot.generation =
                (if p.save ∈ [SaveStage.program, .verify] then 0xFFFF else Config.interruptedGeneration s.freeCount)))
        ∧ (s.unit = .executing .erase → t.freeCount = s.freeCount + 1
          ∧ (p.erase = .slotB → t.slotA = s.slotA ∧ t.slotB.valid = false
            ∧ t.slotB.generation = Config.interruptedGeneration s.freeCount)
          ∧ (p.erase = .slotA → t.slotB = Slot.erased ∧ t.slotA.valid = false
            ∧ t.slotA.generation = Config.interruptedGeneration s.freeCount))
        ∧ t = { State.reset with
            pending := s.pending, phase := phase, resetCause := s.resetCause, chans := t.chans, stby := t.stby
            lowsup := t.lowsup, slotA := t.slotA, slotB := t.slotB, freeCount := t.freeCount })
    ∧ (s.phase ≠ .released → exec (.pinReset p) s = .next s)
    ∧ (∀ cause, s.phase = .held cause → exec .resetRelease s = .next { s with
        phase := .released, resetCause := cause, unit := .booting, clock := 0 })
    ∧ ((∀ cause, s.phase ≠ .held cause) → exec .resetRelease s = .next s)

/-- R21, R42, R61, R100, R116, R142, R187, R189, R191: the boot load ends with the configuration of the valid slot of higher
generation, or the defaults, BOOT recorded first, the filtered levels set from the lines, every load set up by the membership, the
ceiling computed, the standby descent seeking where STBY is asserted, the unit READY, and the boot-on loads requested in order.
The model's choices: the list of events in flight (log 2); notices stored within the event (log 7); attaches at the boot load (log
24); what overtakes no request (log 27). -/
def Obligations.BootLoadStartsThePart : Prop :=
  ∀ s : State, s.phase = .released → s.unit = .booting →
    let src : BootSource :=
      if s.slotA.valid = true ∧ (s.slotB.valid = true → s.slotB.generation.toNat ≤ s.slotA.generation.toNat) then .slotA
      else if s.slotB.valid = true then .slotB else .defaults
    let img := match src with | .defaults => Image.factory | .slotA => s.slotA.image | .slotB => s.slotB.image
    ∃ t, ∃ attached : List Chan, exec .bootLoadEnd s = .next t
      ∧ t.config = img
      ∧ t.active = (match src with | .defaults => none | .slotA => some .a | .slotB => some .b)
      ∧ t.shown = t.slotInfo
      ∧ t.unit = .ready
      ∧ attached = (allChans.filter fun c => (s.chan c).detLine && (img.channels[c]).debounce == 0)
      ∧ t.fifo = ({ s with config := img } : State).fifoAfter (.boot src
          :: (attached.filter fun c => (img.channels[c]).detect != .manual).map Notice.attach)
      ∧ (∀ c : Chan, t.chan c = { State.reset.chan c with
          pgLine := (s.chan c).pgLine, pg := (s.chan c).pgLine
          fltLine := (s.chan c).fltLine, flt := (s.chan c).fltLine
          detLine := (s.chan c).detLine, det := (s.chan c).detLine
          present := (s.chan c).detLine && (img.channels[c]).debounce == 0
          debounce := if (s.chan c).detLine && (img.channels[c]).debounce != 0 then
            .running (img.channels[c]).debounce.toNat else .stopped })
      ∧ (∀ l : Load, t.load l = {
          state := if img.offered l then .idle else if l.val < 8 then .absorbed else .void
          attempts := 0, cooling := .stopped, stable := .stopped })
      ∧ t.stby = { line := s.stby.line, filtered := s.stby.line, qualify := .stopped, due := [] }
      ∧ t.lowsup = { line := s.lowsup.line, filtered := s.lowsup.line, qualify := .stopped, due := [] }
      ∧ t.ceiling = (if s.lowsup.line then img.reduced else img.full)
      ∧ t.descent = (if s.stby.line && !s.halted then .seeking else .inactive)
      ∧ t.posted = s.posted
          ++ (attached.filter img.acting).map (fun c => Instr.autoRequest (img.servedLoad c))
          ++ (allLoads.filter fun l => (img.loads[l]).bootOn && img.offered l).map Instr.bootRequest
      ∧ t.sources = s.sources ++ (attached.filter img.acting).map DetectSource.change
      ∧ t = { s with
          config := t.config, active := t.active, shown := t.shown, unit := t.unit, fifo := t.fifo, chans := t.chans
          loads := t.loads, stby := t.stby, lowsup := t.lowsup, ceiling := t.ceiling, descent := t.descent
          posted := t.posted, sources := t.sources }
end

