-- ==== Sys2Proof/Laws/State.lean ====
section
/-! SUPPORT. What each small update of the state leaves as it was, field by field, and what it reads back. -/

namespace Sys2Proof.Machine

variable (s : State)

@[simp] theorem State.post_pending (i : Instr) : (s.post i).pending = s.pending := rfl
@[simp] theorem State.post_sources (i : Instr) : (s.post i).sources = s.sources := rfl
@[simp] theorem State.post_phase (i : Instr) : (s.post i).phase = s.phase := rfl
@[simp] theorem State.post_resetCause (i : Instr) : (s.post i).resetCause = s.resetCause := rfl
@[simp] theorem State.post_stby (i : Instr) : (s.post i).stby = s.stby := rfl
@[simp] theorem State.post_lowsup (i : Instr) : (s.post i).lowsup = s.lowsup := rfl
@[simp] theorem State.post_chans (i : Instr) : (s.post i).chans = s.chans := rfl
@[simp] theorem State.post_loads (i : Instr) : (s.post i).loads = s.loads := rfl
@[simp] theorem State.post_holders (i : Instr) : (s.post i).holders = s.holders := rfl
@[simp] theorem State.post_queue (i : Instr) : (s.post i).queue = s.queue := rfl
@[simp] theorem State.post_ceiling (i : Instr) : (s.post i).ceiling = s.ceiling := rfl
@[simp] theorem State.post_halted (i : Instr) : (s.post i).halted = s.halted := rfl
@[simp] theorem State.post_descent (i : Instr) : (s.post i).descent = s.descent := rfl
@[simp] theorem State.post_resume (i : Instr) : (s.post i).resume = s.resume := rfl
@[simp] theorem State.post_seq (i : Instr) : (s.post i).seq = s.seq := rfl
@[simp] theorem State.post_args (i : Instr) : (s.post i).args = s.args := rfl
@[simp] theorem State.post_argCopy (i : Instr) : (s.post i).argCopy = s.argCopy := rfl
@[simp] theorem State.post_cmd (i : Instr) : (s.post i).cmd = s.cmd := rfl
@[simp] theorem State.post_result (i : Instr) : (s.post i).result = s.result := rfl
@[simp] theorem State.post_resultSeq (i : Instr) : (s.post i).resultSeq = s.resultSeq := rfl
@[simp] theorem State.post_cmdDone (i : Instr) : (s.post i).cmdDone = s.cmdDone := rfl
@[simp] theorem State.post_overrun (i : Instr) : (s.post i).overrun = s.overrun := rfl
@[simp] theorem State.post_unit (i : Instr) : (s.post i).unit = s.unit := rfl
@[simp] theorem State.post_index (i : Instr) : (s.post i).index = s.index := rfl
@[simp] theorem State.post_nie (i : Instr) : (s.post i).nie = s.nie := rfl
@[simp] theorem State.post_die (i : Instr) : (s.post i).die = s.die := rfl
@[simp] theorem State.post_wrej (i : Instr) : (s.post i).wrej = s.wrej := rfl
@[simp] theorem State.post_rejIndex (i : Instr) : (s.post i).rejIndex = s.rejIndex := rfl
@[simp] theorem State.post_rejReason (i : Instr) : (s.post i).rejReason = s.rejReason := rfl
@[simp] theorem State.post_view (i : Instr) : (s.post i).view = s.view := rfl
@[simp] theorem State.post_busOut (i : Instr) : (s.post i).busOut = s.busOut := rfl
@[simp] theorem State.post_fifo (i : Instr) : (s.post i).fifo = s.fifo := rfl
@[simp] theorem State.post_cursor (i : Instr) : (s.post i).cursor = s.cursor := rfl
@[simp] theorem State.post_clock (i : Instr) : (s.post i).clock = s.clock := rfl
@[simp] theorem State.post_clockLatch (i : Instr) : (s.post i).clockLatch = s.clockLatch := rfl
@[simp] theorem State.post_config (i : Instr) : (s.post i).config = s.config := rfl
@[simp] theorem State.post_slotA (i : Instr) : (s.post i).slotA = s.slotA := rfl
@[simp] theorem State.post_slotB (i : Instr) : (s.post i).slotB = s.slotB := rfl
@[simp] theorem State.post_active (i : Instr) : (s.post i).active = s.active := rfl
@[simp] theorem State.post_shown (i : Instr) : (s.post i).shown = s.shown := rfl
@[simp] theorem State.post_freeCount (i : Instr) : (s.post i).freeCount = s.freeCount := rfl

@[simp] theorem State.postAll_pending (is : List Instr) : (s.postAll is).pending = s.pending := rfl
@[simp] theorem State.postAll_sources (is : List Instr) : (s.postAll is).sources = s.sources := rfl
@[simp] theorem State.postAll_phase (is : List Instr) : (s.postAll is).phase = s.phase := rfl
@[simp] theorem State.postAll_resetCause (is : List Instr) : (s.postAll is).resetCause = s.resetCause := rfl
@[simp] theorem State.postAll_stby (is : List Instr) : (s.postAll is).stby = s.stby := rfl
@[simp] theorem State.postAll_lowsup (is : List Instr) : (s.postAll is).lowsup = s.lowsup := rfl
@[simp] theorem State.postAll_chans (is : List Instr) : (s.postAll is).chans = s.chans := rfl
@[simp] theorem State.postAll_loads (is : List Instr) : (s.postAll is).loads = s.loads := rfl
@[simp] theorem State.postAll_holders (is : List Instr) : (s.postAll is).holders = s.holders := rfl
@[simp] theorem State.postAll_queue (is : List Instr) : (s.postAll is).queue = s.queue := rfl
@[simp] theorem State.postAll_ceiling (is : List Instr) : (s.postAll is).ceiling = s.ceiling := rfl
@[simp] theorem State.postAll_halted (is : List Instr) : (s.postAll is).halted = s.halted := rfl
@[simp] theorem State.postAll_descent (is : List Instr) : (s.postAll is).descent = s.descent := rfl
@[simp] theorem State.postAll_resume (is : List Instr) : (s.postAll is).resume = s.resume := rfl
@[simp] theorem State.postAll_seq (is : List Instr) : (s.postAll is).seq = s.seq := rfl
@[simp] theorem State.postAll_args (is : List Instr) : (s.postAll is).args = s.args := rfl
@[simp] theorem State.postAll_argCopy (is : List Instr) : (s.postAll is).argCopy = s.argCopy := rfl
@[simp] theorem State.postAll_cmd (is : List Instr) : (s.postAll is).cmd = s.cmd := rfl
@[simp] theorem State.postAll_result (is : List Instr) : (s.postAll is).result = s.result := rfl
@[simp] theorem State.postAll_resultSeq (is : List Instr) : (s.postAll is).resultSeq = s.resultSeq := rfl
@[simp] theorem State.postAll_cmdDone (is : List Instr) : (s.postAll is).cmdDone = s.cmdDone := rfl
@[simp] theorem State.postAll_overrun (is : List Instr) : (s.postAll is).overrun = s.overrun := rfl
@[simp] theorem State.postAll_unit (is : List Instr) : (s.postAll is).unit = s.unit := rfl
@[simp] theorem State.postAll_index (is : List Instr) : (s.postAll is).index = s.index := rfl
@[simp] theorem State.postAll_nie (is : List Instr) : (s.postAll is).nie = s.nie := rfl
@[simp] theorem State.postAll_die (is : List Instr) : (s.postAll is).die = s.die := rfl
@[simp] theorem State.postAll_wrej (is : List Instr) : (s.postAll is).wrej = s.wrej := rfl
@[simp] theorem State.postAll_rejIndex (is : List Instr) : (s.postAll is).rejIndex = s.rejIndex := rfl
@[simp] theorem State.postAll_rejReason (is : List Instr) : (s.postAll is).rejReason = s.rejReason := rfl
@[simp] theorem State.postAll_view (is : List Instr) : (s.postAll is).view = s.view := rfl
@[simp] theorem State.postAll_busOut (is : List Instr) : (s.postAll is).busOut = s.busOut := rfl
@[simp] theorem State.postAll_fifo (is : List Instr) : (s.postAll is).fifo = s.fifo := rfl
@[simp] theorem State.postAll_cursor (is : List Instr) : (s.postAll is).cursor = s.cursor := rfl
@[simp] theorem State.postAll_clock (is : List Instr) : (s.postAll is).clock = s.clock := rfl
@[simp] theorem State.postAll_clockLatch (is : List Instr) : (s.postAll is).clockLatch = s.clockLatch := rfl
@[simp] theorem State.postAll_config (is : List Instr) : (s.postAll is).config = s.config := rfl
@[simp] theorem State.postAll_slotA (is : List Instr) : (s.postAll is).slotA = s.slotA := rfl
@[simp] theorem State.postAll_slotB (is : List Instr) : (s.postAll is).slotB = s.slotB := rfl
@[simp] theorem State.postAll_active (is : List Instr) : (s.postAll is).active = s.active := rfl
@[simp] theorem State.postAll_shown (is : List Instr) : (s.postAll is).shown = s.shown := rfl
@[simp] theorem State.postAll_freeCount (is : List Instr) : (s.postAll is).freeCount = s.freeCount := rfl

@[simp] theorem State.ask_pending (i : Instr) (x : DetectSource) : (s.ask i x).pending = s.pending := rfl
@[simp] theorem State.ask_posted (i : Instr) (x : DetectSource) : (s.ask i x).posted = s.posted ++ [i] := rfl
@[simp] theorem State.ask_sources (i : Instr) (x : DetectSource) : (s.ask i x).sources = s.sources ++ [x] := rfl
@[simp] theorem State.ask_phase (i : Instr) (x : DetectSource) : (s.ask i x).phase = s.phase := rfl
@[simp] theorem State.ask_resetCause (i : Instr) (x : DetectSource) : (s.ask i x).resetCause = s.resetCause := rfl
@[simp] theorem State.ask_stby (i : Instr) (x : DetectSource) : (s.ask i x).stby = s.stby := rfl
@[simp] theorem State.ask_lowsup (i : Instr) (x : DetectSource) : (s.ask i x).lowsup = s.lowsup := rfl
@[simp] theorem State.ask_chans (i : Instr) (x : DetectSource) : (s.ask i x).chans = s.chans := rfl
@[simp] theorem State.ask_loads (i : Instr) (x : DetectSource) : (s.ask i x).loads = s.loads := rfl
@[simp] theorem State.ask_holders (i : Instr) (x : DetectSource) : (s.ask i x).holders = s.holders := rfl
@[simp] theorem State.ask_queue (i : Instr) (x : DetectSource) : (s.ask i x).queue = s.queue := rfl
@[simp] theorem State.ask_ceiling (i : Instr) (x : DetectSource) : (s.ask i x).ceiling = s.ceiling := rfl
@[simp] theorem State.ask_halted (i : Instr) (x : DetectSource) : (s.ask i x).halted = s.halted := rfl
@[simp] theorem State.ask_descent (i : Instr) (x : DetectSource) : (s.ask i x).descent = s.descent := rfl
@[simp] theorem State.ask_resume (i : Instr) (x : DetectSource) : (s.ask i x).resume = s.resume := rfl
@[simp] theorem State.ask_seq (i : Instr) (x : DetectSource) : (s.ask i x).seq = s.seq := rfl
@[simp] theorem State.ask_args (i : Instr) (x : DetectSource) : (s.ask i x).args = s.args := rfl
@[simp] theorem State.ask_argCopy (i : Instr) (x : DetectSource) : (s.ask i x).argCopy = s.argCopy := rfl
@[simp] theorem State.ask_cmd (i : Instr) (x : DetectSource) : (s.ask i x).cmd = s.cmd := rfl
@[simp] theorem State.ask_result (i : Instr) (x : DetectSource) : (s.ask i x).result = s.result := rfl
@[simp] theorem State.ask_resultSeq (i : Instr) (x : DetectSource) : (s.ask i x).resultSeq = s.resultSeq := rfl
@[simp] theorem State.ask_cmdDone (i : Instr) (x : DetectSource) : (s.ask i x).cmdDone = s.cmdDone := rfl
@[simp] theorem State.ask_overrun (i : Instr) (x : DetectSource) : (s.ask i x).overrun = s.overrun := rfl
@[simp] theorem State.ask_unit (i : Instr) (x : DetectSource) : (s.ask i x).unit = s.unit := rfl
@[simp] theorem State.ask_index (i : Instr) (x : DetectSource) : (s.ask i x).index = s.index := rfl
@[simp] theorem State.ask_nie (i : Instr) (x : DetectSource) : (s.ask i x).nie = s.nie := rfl
@[simp] theorem State.ask_die (i : Instr) (x : DetectSource) : (s.ask i x).die = s.die := rfl
@[simp] theorem State.ask_wrej (i : Instr) (x : DetectSource) : (s.ask i x).wrej = s.wrej := rfl
@[simp] theorem State.ask_rejIndex (i : Instr) (x : DetectSource) : (s.ask i x).rejIndex = s.rejIndex := rfl
@[simp] theorem State.ask_rejReason (i : Instr) (x : DetectSource) : (s.ask i x).rejReason = s.rejReason := rfl
@[simp] theorem State.ask_view (i : Instr) (x : DetectSource) : (s.ask i x).view = s.view := rfl
@[simp] theorem State.ask_busOut (i : Instr) (x : DetectSource) : (s.ask i x).busOut = s.busOut := rfl
@[simp] theorem State.ask_fifo (i : Instr) (x : DetectSource) : (s.ask i x).fifo = s.fifo := rfl
@[simp] theorem State.ask_cursor (i : Instr) (x : DetectSource) : (s.ask i x).cursor = s.cursor := rfl
@[simp] theorem State.ask_clock (i : Instr) (x : DetectSource) : (s.ask i x).clock = s.clock := rfl
@[simp] theorem State.ask_clockLatch (i : Instr) (x : DetectSource) : (s.ask i x).clockLatch = s.clockLatch := rfl
@[simp] theorem State.ask_config (i : Instr) (x : DetectSource) : (s.ask i x).config = s.config := rfl
@[simp] theorem State.ask_slotA (i : Instr) (x : DetectSource) : (s.ask i x).slotA = s.slotA := rfl
@[simp] theorem State.ask_slotB (i : Instr) (x : DetectSource) : (s.ask i x).slotB = s.slotB := rfl
@[simp] theorem State.ask_active (i : Instr) (x : DetectSource) : (s.ask i x).active = s.active := rfl
@[simp] theorem State.ask_shown (i : Instr) (x : DetectSource) : (s.ask i x).shown = s.shown := rfl
@[simp] theorem State.ask_freeCount (i : Instr) (x : DetectSource) : (s.ask i x).freeCount = s.freeCount := rfl

@[simp] theorem State.consume_pending (i : Instr) : (s.consume i).pending = s.pending := rfl
@[simp] theorem State.consume_sources (i : Instr) :
    (s.consume i).sources =
      if fromDetect i then s.sources.eraseIdx ((s.posted.takeWhile (· != i)).countP fromDetect) else s.sources := rfl
@[simp] theorem State.consume_phase (i : Instr) : (s.consume i).phase = s.phase := rfl
@[simp] theorem State.consume_resetCause (i : Instr) : (s.consume i).resetCause = s.resetCause := rfl
@[simp] theorem State.consume_stby (i : Instr) : (s.consume i).stby = s.stby := rfl
@[simp] theorem State.consume_lowsup (i : Instr) : (s.consume i).lowsup = s.lowsup := rfl
@[simp] theorem State.consume_chans (i : Instr) : (s.consume i).chans = s.chans := rfl
@[simp] theorem State.consume_loads (i : Instr) : (s.consume i).loads = s.loads := rfl
@[simp] theorem State.consume_holders (i : Instr) : (s.consume i).holders = s.holders := rfl
@[simp] theorem State.consume_queue (i : Instr) : (s.consume i).queue = s.queue := rfl
@[simp] theorem State.consume_ceiling (i : Instr) : (s.consume i).ceiling = s.ceiling := rfl
@[simp] theorem State.consume_halted (i : Instr) : (s.consume i).halted = s.halted := rfl
@[simp] theorem State.consume_descent (i : Instr) : (s.consume i).descent = s.descent := rfl
@[simp] theorem State.consume_resume (i : Instr) : (s.consume i).resume = s.resume := rfl
@[simp] theorem State.consume_seq (i : Instr) : (s.consume i).seq = s.seq := rfl
@[simp] theorem State.consume_args (i : Instr) : (s.consume i).args = s.args := rfl
@[simp] theorem State.consume_argCopy (i : Instr) : (s.consume i).argCopy = s.argCopy := rfl
@[simp] theorem State.consume_cmd (i : Instr) : (s.consume i).cmd = s.cmd := rfl
@[simp] theorem State.consume_result (i : Instr) : (s.consume i).result = s.result := rfl
@[simp] theorem State.consume_resultSeq (i : Instr) : (s.consume i).resultSeq = s.resultSeq := rfl
@[simp] theorem State.consume_cmdDone (i : Instr) : (s.consume i).cmdDone = s.cmdDone := rfl
@[simp] theorem State.consume_overrun (i : Instr) : (s.consume i).overrun = s.overrun := rfl
@[simp] theorem State.consume_unit (i : Instr) : (s.consume i).unit = s.unit := rfl
@[simp] theorem State.consume_index (i : Instr) : (s.consume i).index = s.index := rfl
@[simp] theorem State.consume_nie (i : Instr) : (s.consume i).nie = s.nie := rfl
@[simp] theorem State.consume_die (i : Instr) : (s.consume i).die = s.die := rfl
@[simp] theorem State.consume_wrej (i : Instr) : (s.consume i).wrej = s.wrej := rfl
@[simp] theorem State.consume_rejIndex (i : Instr) : (s.consume i).rejIndex = s.rejIndex := rfl
@[simp] theorem State.consume_rejReason (i : Instr) : (s.consume i).rejReason = s.rejReason := rfl
@[simp] theorem State.consume_view (i : Instr) : (s.consume i).view = s.view := rfl
@[simp] theorem State.consume_busOut (i : Instr) : (s.consume i).busOut = s.busOut := rfl
@[simp] theorem State.consume_fifo (i : Instr) : (s.consume i).fifo = s.fifo := rfl
@[simp] theorem State.consume_cursor (i : Instr) : (s.consume i).cursor = s.cursor := rfl
@[simp] theorem State.consume_clock (i : Instr) : (s.consume i).clock = s.clock := rfl
@[simp] theorem State.consume_clockLatch (i : Instr) : (s.consume i).clockLatch = s.clockLatch := rfl
@[simp] theorem State.consume_config (i : Instr) : (s.consume i).config = s.config := rfl
@[simp] theorem State.consume_slotA (i : Instr) : (s.consume i).slotA = s.slotA := rfl
@[simp] theorem State.consume_slotB (i : Instr) : (s.consume i).slotB = s.slotB := rfl
@[simp] theorem State.consume_active (i : Instr) : (s.consume i).active = s.active := rfl
@[simp] theorem State.consume_shown (i : Instr) : (s.consume i).shown = s.shown := rfl
@[simp] theorem State.consume_freeCount (i : Instr) : (s.consume i).freeCount = s.freeCount := rfl

@[simp] theorem State.setLoad_pending (l : Load) (r : LoadRun) : (s.setLoad l r).pending = s.pending := rfl
@[simp] theorem State.setLoad_posted (l : Load) (r : LoadRun) : (s.setLoad l r).posted = s.posted := rfl
@[simp] theorem State.setLoad_sources (l : Load) (r : LoadRun) : (s.setLoad l r).sources = s.sources := rfl
@[simp] theorem State.setLoad_phase (l : Load) (r : LoadRun) : (s.setLoad l r).phase = s.phase := rfl
@[simp] theorem State.setLoad_resetCause (l : Load) (r : LoadRun) : (s.setLoad l r).resetCause = s.resetCause := rfl
@[simp] theorem State.setLoad_stby (l : Load) (r : LoadRun) : (s.setLoad l r).stby = s.stby := rfl
@[simp] theorem State.setLoad_lowsup (l : Load) (r : LoadRun) : (s.setLoad l r).lowsup = s.lowsup := rfl
@[simp] theorem State.setLoad_chans (l : Load) (r : LoadRun) : (s.setLoad l r).chans = s.chans := rfl
@[simp] theorem State.setLoad_holders (l : Load) (r : LoadRun) : (s.setLoad l r).holders = s.holders := rfl
@[simp] theorem State.setLoad_queue (l : Load) (r : LoadRun) : (s.setLoad l r).queue = s.queue := rfl
@[simp] theorem State.setLoad_ceiling (l : Load) (r : LoadRun) : (s.setLoad l r).ceiling = s.ceiling := rfl
@[simp] theorem State.setLoad_halted (l : Load) (r : LoadRun) : (s.setLoad l r).halted = s.halted := rfl
@[simp] theorem State.setLoad_descent (l : Load) (r : LoadRun) : (s.setLoad l r).descent = s.descent := rfl
@[simp] theorem State.setLoad_resume (l : Load) (r : LoadRun) : (s.setLoad l r).resume = s.resume := rfl
@[simp] theorem State.setLoad_seq (l : Load) (r : LoadRun) : (s.setLoad l r).seq = s.seq := rfl
@[simp] theorem State.setLoad_args (l : Load) (r : LoadRun) : (s.setLoad l r).args = s.args := rfl
@[simp] theorem State.setLoad_argCopy (l : Load) (r : LoadRun) : (s.setLoad l r).argCopy = s.argCopy := rfl
@[simp] theorem State.setLoad_cmd (l : Load) (r : LoadRun) : (s.setLoad l r).cmd = s.cmd := rfl
@[simp] theorem State.setLoad_result (l : Load) (r : LoadRun) : (s.setLoad l r).result = s.result := rfl
@[simp] theorem State.setLoad_resultSeq (l : Load) (r : LoadRun) : (s.setLoad l r).resultSeq = s.resultSeq := rfl
@[simp] theorem State.setLoad_cmdDone (l : Load) (r : LoadRun) : (s.setLoad l r).cmdDone = s.cmdDone := rfl
@[simp] theorem State.setLoad_overrun (l : Load) (r : LoadRun) : (s.setLoad l r).overrun = s.overrun := rfl
@[simp] theorem State.setLoad_unit (l : Load) (r : LoadRun) : (s.setLoad l r).unit = s.unit := rfl
@[simp] theorem State.setLoad_index (l : Load) (r : LoadRun) : (s.setLoad l r).index = s.index := rfl
@[simp] theorem State.setLoad_nie (l : Load) (r : LoadRun) : (s.setLoad l r).nie = s.nie := rfl
@[simp] theorem State.setLoad_die (l : Load) (r : LoadRun) : (s.setLoad l r).die = s.die := rfl
@[simp] theorem State.setLoad_wrej (l : Load) (r : LoadRun) : (s.setLoad l r).wrej = s.wrej := rfl
@[simp] theorem State.setLoad_rejIndex (l : Load) (r : LoadRun) : (s.setLoad l r).rejIndex = s.rejIndex := rfl
@[simp] theorem State.setLoad_rejReason (l : Load) (r : LoadRun) : (s.setLoad l r).rejReason = s.rejReason := rfl
@[simp] theorem State.setLoad_view (l : Load) (r : LoadRun) : (s.setLoad l r).view = s.view := rfl
@[simp] theorem State.setLoad_busOut (l : Load) (r : LoadRun) : (s.setLoad l r).busOut = s.busOut := rfl
@[simp] theorem State.setLoad_fifo (l : Load) (r : LoadRun) : (s.setLoad l r).fifo = s.fifo := rfl
@[simp] theorem State.setLoad_cursor (l : Load) (r : LoadRun) : (s.setLoad l r).cursor = s.cursor := rfl
@[simp] theorem State.setLoad_clock (l : Load) (r : LoadRun) : (s.setLoad l r).clock = s.clock := rfl
@[simp] theorem State.setLoad_clockLatch (l : Load) (r : LoadRun) : (s.setLoad l r).clockLatch = s.clockLatch := rfl
@[simp] theorem State.setLoad_config (l : Load) (r : LoadRun) : (s.setLoad l r).config = s.config := rfl
@[simp] theorem State.setLoad_slotA (l : Load) (r : LoadRun) : (s.setLoad l r).slotA = s.slotA := rfl
@[simp] theorem State.setLoad_slotB (l : Load) (r : LoadRun) : (s.setLoad l r).slotB = s.slotB := rfl
@[simp] theorem State.setLoad_active (l : Load) (r : LoadRun) : (s.setLoad l r).active = s.active := rfl
@[simp] theorem State.setLoad_shown (l : Load) (r : LoadRun) : (s.setLoad l r).shown = s.shown := rfl
@[simp] theorem State.setLoad_freeCount (l : Load) (r : LoadRun) : (s.setLoad l r).freeCount = s.freeCount := rfl

@[simp] theorem State.setChan_pending (c : Chan) (x : Channel) : (s.setChan c x).pending = s.pending := rfl
@[simp] theorem State.setChan_posted (c : Chan) (x : Channel) : (s.setChan c x).posted = s.posted := rfl
@[simp] theorem State.setChan_sources (c : Chan) (x : Channel) : (s.setChan c x).sources = s.sources := rfl
@[simp] theorem State.setChan_phase (c : Chan) (x : Channel) : (s.setChan c x).phase = s.phase := rfl
@[simp] theorem State.setChan_resetCause (c : Chan) (x : Channel) : (s.setChan c x).resetCause = s.resetCause := rfl
@[simp] theorem State.setChan_stby (c : Chan) (x : Channel) : (s.setChan c x).stby = s.stby := rfl
@[simp] theorem State.setChan_lowsup (c : Chan) (x : Channel) : (s.setChan c x).lowsup = s.lowsup := rfl
@[simp] theorem State.setChan_loads (c : Chan) (x : Channel) : (s.setChan c x).loads = s.loads := rfl
@[simp] theorem State.setChan_holders (c : Chan) (x : Channel) : (s.setChan c x).holders = s.holders := rfl
@[simp] theorem State.setChan_queue (c : Chan) (x : Channel) : (s.setChan c x).queue = s.queue := rfl
@[simp] theorem State.setChan_ceiling (c : Chan) (x : Channel) : (s.setChan c x).ceiling = s.ceiling := rfl
@[simp] theorem State.setChan_halted (c : Chan) (x : Channel) : (s.setChan c x).halted = s.halted := rfl
@[simp] theorem State.setChan_descent (c : Chan) (x : Channel) : (s.setChan c x).descent = s.descent := rfl
@[simp] theorem State.setChan_resume (c : Chan) (x : Channel) : (s.setChan c x).resume = s.resume := rfl
@[simp] theorem State.setChan_seq (c : Chan) (x : Channel) : (s.setChan c x).seq = s.seq := rfl
@[simp] theorem State.setChan_args (c : Chan) (x : Channel) : (s.setChan c x).args = s.args := rfl
@[simp] theorem State.setChan_argCopy (c : Chan) (x : Channel) : (s.setChan c x).argCopy = s.argCopy := rfl
@[simp] theorem State.setChan_cmd (c : Chan) (x : Channel) : (s.setChan c x).cmd = s.cmd := rfl
@[simp] theorem State.setChan_result (c : Chan) (x : Channel) : (s.setChan c x).result = s.result := rfl
@[simp] theorem State.setChan_resultSeq (c : Chan) (x : Channel) : (s.setChan c x).resultSeq = s.resultSeq := rfl
@[simp] theorem State.setChan_cmdDone (c : Chan) (x : Channel) : (s.setChan c x).cmdDone = s.cmdDone := rfl
@[simp] theorem State.setChan_overrun (c : Chan) (x : Channel) : (s.setChan c x).overrun = s.overrun := rfl
@[simp] theorem State.setChan_unit (c : Chan) (x : Channel) : (s.setChan c x).unit = s.unit := rfl
@[simp] theorem State.setChan_index (c : Chan) (x : Channel) : (s.setChan c x).index = s.index := rfl
@[simp] theorem State.setChan_nie (c : Chan) (x : Channel) : (s.setChan c x).nie = s.nie := rfl
@[simp] theorem State.setChan_die (c : Chan) (x : Channel) : (s.setChan c x).die = s.die := rfl
@[simp] theorem State.setChan_wrej (c : Chan) (x : Channel) : (s.setChan c x).wrej = s.wrej := rfl
@[simp] theorem State.setChan_rejIndex (c : Chan) (x : Channel) : (s.setChan c x).rejIndex = s.rejIndex := rfl
@[simp] theorem State.setChan_rejReason (c : Chan) (x : Channel) : (s.setChan c x).rejReason = s.rejReason := rfl
@[simp] theorem State.setChan_view (c : Chan) (x : Channel) : (s.setChan c x).view = s.view := rfl
@[simp] theorem State.setChan_busOut (c : Chan) (x : Channel) : (s.setChan c x).busOut = s.busOut := rfl
@[simp] theorem State.setChan_fifo (c : Chan) (x : Channel) : (s.setChan c x).fifo = s.fifo := rfl
@[simp] theorem State.setChan_cursor (c : Chan) (x : Channel) : (s.setChan c x).cursor = s.cursor := rfl
@[simp] theorem State.setChan_clock (c : Chan) (x : Channel) : (s.setChan c x).clock = s.clock := rfl
@[simp] theorem State.setChan_clockLatch (c : Chan) (x : Channel) : (s.setChan c x).clockLatch = s.clockLatch := rfl
@[simp] theorem State.setChan_config (c : Chan) (x : Channel) : (s.setChan c x).config = s.config := rfl
@[simp] theorem State.setChan_slotA (c : Chan) (x : Channel) : (s.setChan c x).slotA = s.slotA := rfl
@[simp] theorem State.setChan_slotB (c : Chan) (x : Channel) : (s.setChan c x).slotB = s.slotB := rfl
@[simp] theorem State.setChan_active (c : Chan) (x : Channel) : (s.setChan c x).active = s.active := rfl
@[simp] theorem State.setChan_shown (c : Chan) (x : Channel) : (s.setChan c x).shown = s.shown := rfl
@[simp] theorem State.setChan_freeCount (c : Chan) (x : Channel) : (s.setChan c x).freeCount = s.freeCount := rfl

@[simp] theorem State.setRecord_pending (l : Load) (r : Option SeqRecord) : (s.setRecord l r).pending = s.pending := rfl
@[simp] theorem State.setRecord_posted (l : Load) (r : Option SeqRecord) : (s.setRecord l r).posted = s.posted := rfl
@[simp] theorem State.setRecord_sources (l : Load) (r : Option SeqRecord) : (s.setRecord l r).sources = s.sources := rfl
@[simp] theorem State.setRecord_phase (l : Load) (r : Option SeqRecord) : (s.setRecord l r).phase = s.phase := rfl
@[simp] theorem State.setRecord_resetCause (l : Load) (r : Option SeqRecord) : (s.setRecord l r).resetCause = s.resetCause := rfl
@[simp] theorem State.setRecord_stby (l : Load) (r : Option SeqRecord) : (s.setRecord l r).stby = s.stby := rfl
@[simp] theorem State.setRecord_lowsup (l : Load) (r : Option SeqRecord) : (s.setRecord l r).lowsup = s.lowsup := rfl
@[simp] theorem State.setRecord_chans (l : Load) (r : Option SeqRecord) : (s.setRecord l r).chans = s.chans := rfl
@[simp] theorem State.setRecord_loads (l : Load) (r : Option SeqRecord) : (s.setRecord l r).loads = s.loads := rfl
@[simp] theorem State.setRecord_holders (l : Load) (r : Option SeqRecord) : (s.setRecord l r).holders = s.holders := rfl
@[simp] theorem State.setRecord_queue (l : Load) (r : Option SeqRecord) : (s.setRecord l r).queue = s.queue := rfl
@[simp] theorem State.setRecord_ceiling (l : Load) (r : Option SeqRecord) : (s.setRecord l r).ceiling = s.ceiling := rfl
@[simp] theorem State.setRecord_halted (l : Load) (r : Option SeqRecord) : (s.setRecord l r).halted = s.halted := rfl
@[simp] theorem State.setRecord_descent (l : Load) (r : Option SeqRecord) : (s.setRecord l r).descent = s.descent := rfl
@[simp] theorem State.setRecord_resume (l : Load) (r : Option SeqRecord) : (s.setRecord l r).resume = s.resume := rfl
@[simp] theorem State.setRecord_args (l : Load) (r : Option SeqRecord) : (s.setRecord l r).args = s.args := rfl
@[simp] theorem State.setRecord_argCopy (l : Load) (r : Option SeqRecord) : (s.setRecord l r).argCopy = s.argCopy := rfl
@[simp] theorem State.setRecord_cmd (l : Load) (r : Option SeqRecord) : (s.setRecord l r).cmd = s.cmd := rfl
@[simp] theorem State.setRecord_result (l : Load) (r : Option SeqRecord) : (s.setRecord l r).result = s.result := rfl
@[simp] theorem State.setRecord_resultSeq (l : Load) (r : Option SeqRecord) : (s.setRecord l r).resultSeq = s.resultSeq := rfl
@[simp] theorem State.setRecord_cmdDone (l : Load) (r : Option SeqRecord) : (s.setRecord l r).cmdDone = s.cmdDone := rfl
@[simp] theorem State.setRecord_overrun (l : Load) (r : Option SeqRecord) : (s.setRecord l r).overrun = s.overrun := rfl
@[simp] theorem State.setRecord_unit (l : Load) (r : Option SeqRecord) : (s.setRecord l r).unit = s.unit := rfl
@[simp] theorem State.setRecord_index (l : Load) (r : Option SeqRecord) : (s.setRecord l r).index = s.index := rfl
@[simp] theorem State.setRecord_nie (l : Load) (r : Option SeqRecord) : (s.setRecord l r).nie = s.nie := rfl
@[simp] theorem State.setRecord_die (l : Load) (r : Option SeqRecord) : (s.setRecord l r).die = s.die := rfl
@[simp] theorem State.setRecord_wrej (l : Load) (r : Option SeqRecord) : (s.setRecord l r).wrej = s.wrej := rfl
@[simp] theorem State.setRecord_rejIndex (l : Load) (r : Option SeqRecord) : (s.setRecord l r).rejIndex = s.rejIndex := rfl
@[simp] theorem State.setRecord_rejReason (l : Load) (r : Option SeqRecord) : (s.setRecord l r).rejReason = s.rejReason := rfl
@[simp] theorem State.setRecord_view (l : Load) (r : Option SeqRecord) : (s.setRecord l r).view = s.view := rfl
@[simp] theorem State.setRecord_busOut (l : Load) (r : Option SeqRecord) : (s.setRecord l r).busOut = s.busOut := rfl
@[simp] theorem State.setRecord_fifo (l : Load) (r : Option SeqRecord) : (s.setRecord l r).fifo = s.fifo := rfl
@[simp] theorem State.setRecord_cursor (l : Load) (r : Option SeqRecord) : (s.setRecord l r).cursor = s.cursor := rfl
@[simp] theorem State.setRecord_clock (l : Load) (r : Option SeqRecord) : (s.setRecord l r).clock = s.clock := rfl
@[simp] theorem State.setRecord_clockLatch (l : Load) (r : Option SeqRecord) : (s.setRecord l r).clockLatch = s.clockLatch := rfl
@[simp] theorem State.setRecord_config (l : Load) (r : Option SeqRecord) : (s.setRecord l r).config = s.config := rfl
@[simp] theorem State.setRecord_slotA (l : Load) (r : Option SeqRecord) : (s.setRecord l r).slotA = s.slotA := rfl
@[simp] theorem State.setRecord_slotB (l : Load) (r : Option SeqRecord) : (s.setRecord l r).slotB = s.slotB := rfl
@[simp] theorem State.setRecord_active (l : Load) (r : Option SeqRecord) : (s.setRecord l r).active = s.active := rfl
@[simp] theorem State.setRecord_shown (l : Load) (r : Option SeqRecord) : (s.setRecord l r).shown = s.shown := rfl
@[simp] theorem State.setRecord_freeCount (l : Load) (r : Option SeqRecord) : (s.setRecord l r).freeCount = s.freeCount := rfl

theorem State.post_posted (i : Instr) : (s.post i).posted = s.posted ++ [i] := rfl
theorem State.postAll_posted (is : List Instr) : (s.postAll is).posted = s.posted ++ is := rfl
theorem State.consume_posted (i : Instr) : (s.consume i).posted = s.posted.erase i := rfl
/-- What is not of the detect unit leaves the sources as they were. -/
theorem State.consume_eq {i : Instr} (h : fromDetect i = false) : s.consume i = { s with posted := s.posted.erase i } := by
  simp [State.consume, h]

@[simp] theorem State.post_load (i : Instr) (m : Load) : (s.post i).load m = s.load m := rfl
@[simp] theorem State.post_chan (i : Instr) (d : Chan) : (s.post i).chan d = s.chan d := rfl
@[simp] theorem State.post_record (i : Instr) (m : Load) : (s.post i).record m = s.record m := rfl
@[simp] theorem State.postAll_load (is : List Instr) (m : Load) : (s.postAll is).load m = s.load m := rfl
@[simp] theorem State.postAll_chan (is : List Instr) (d : Chan) : (s.postAll is).chan d = s.chan d := rfl
@[simp] theorem State.postAll_record (is : List Instr) (m : Load) : (s.postAll is).record m = s.record m := rfl
@[simp] theorem State.ask_load (i : Instr) (x : DetectSource) (m : Load) : (s.ask i x).load m = s.load m := rfl
@[simp] theorem State.ask_chan (i : Instr) (x : DetectSource) (d : Chan) : (s.ask i x).chan d = s.chan d := rfl
@[simp] theorem State.ask_record (i : Instr) (x : DetectSource) (m : Load) : (s.ask i x).record m = s.record m := rfl
@[simp] theorem State.consume_load (i : Instr) (m : Load) : (s.consume i).load m = s.load m := rfl
@[simp] theorem State.consume_chan (i : Instr) (d : Chan) : (s.consume i).chan d = s.chan d := rfl
@[simp] theorem State.consume_record (i : Instr) (m : Load) : (s.consume i).record m = s.record m := rfl
@[simp] theorem State.setLoad_chan (l : Load) (r : LoadRun) (d : Chan) : (s.setLoad l r).chan d = s.chan d := rfl
@[simp] theorem State.setLoad_record (l : Load) (r : LoadRun) (m : Load) : (s.setLoad l r).record m = s.record m := rfl
@[simp] theorem State.setChan_load (c : Chan) (x : Channel) (m : Load) : (s.setChan c x).load m = s.load m := rfl
@[simp] theorem State.setChan_record (c : Chan) (x : Channel) (m : Load) : (s.setChan c x).record m = s.record m := rfl
@[simp] theorem State.setRecord_load (l : Load) (r : Option SeqRecord) (m : Load) : (s.setRecord l r).load m = s.load m := rfl
@[simp] theorem State.setRecord_chan (l : Load) (r : Option SeqRecord) (d : Chan) : (s.setRecord l r).chan d = s.chan d := rfl

theorem State.setLoad_load (i j : Load) (x : LoadRun) : (s.setLoad i x).load j = if i = j then x else s.load j := by
  simp [State.setLoad, State.load, Vector.getElem_set, Fin.ext_iff]
@[simp] theorem State.setLoad_load_self (i : Load) (x : LoadRun) : (s.setLoad i x).load i = x := by simp [State.setLoad_load]
theorem State.setLoad_load_ne {i j : Load} (h : i ≠ j) (x : LoadRun) : (s.setLoad i x).load j = s.load j := by simp [State.setLoad_load, h]
theorem State.setChan_chan (i j : Chan) (x : Channel) : (s.setChan i x).chan j = if i = j then x else s.chan j := by
  simp [State.setChan, State.chan, Vector.getElem_set, Fin.ext_iff]
@[simp] theorem State.setChan_chan_self (i : Chan) (x : Channel) : (s.setChan i x).chan i = x := by simp [State.setChan_chan]
theorem State.setChan_chan_ne {i j : Chan} (h : i ≠ j) (x : Channel) : (s.setChan i x).chan j = s.chan j := by simp [State.setChan_chan, h]
theorem State.setRecord_record (i j : Load) (x : Option SeqRecord) : (s.setRecord i x).record j = if i = j then x else s.record j := by
  simp [State.setRecord, State.record, Vector.getElem_set, Fin.ext_iff]
@[simp] theorem State.setRecord_record_self (i : Load) (x : Option SeqRecord) : (s.setRecord i x).record i = x := by simp [State.setRecord_record]
theorem State.setRecord_record_ne {i j : Load} (h : i ≠ j) (x : Option SeqRecord) : (s.setRecord i x).record j = s.record j := by simp [State.setRecord_record, h]

end Sys2Proof.Machine
end

