-- ==== Sys2Proof/Laws/Ops.lean ====
section
/-! SUPPORT. One lemma for each shared operation: which parts of the state it can change, and when it changes nothing. -/

namespace Sys2Proof.Machine

/-! ## Events and strobes -/

theorem running_iff (s : State) : s.running = true ↔ s.phase = .released ∧ s.unit.isBooting = false := by
  simp [State.running, State.released]

theorem takeEvent_of_running {i : Instr} {act : State → State} {s : State} (h : s.running = true) :
    takeEvent i act s = .next (act (s.consume i)) := by
  have : (s.consume i).running = true := by simpa [State.running, State.released] using h
  simp [takeEvent, this]

theorem takeEvent_of_not_running {i : Instr} {act : State → State} {s : State} (h : s.running = false) :
    takeEvent i act s = .next (s.consume i) := by
  have : (s.consume i).running = false := by simpa [State.running, State.released] using h
  simp [takeEvent, this]

/-! ## Events in the order sent -/

theorem State.sent_of_mem {s : State} {i : Instr} (h : i ∈ s.posted) : s.sent i = s := by simp [State.sent, h]

theorem State.sent_of_not_mem {s : State} {i : Instr} (h : i ∉ s.posted) : s.sent i = s.post i := by simp [State.sent, h]

theorem takeWhile_append_of_not_mem {α : Type} [DecidableEq α] {l : List α} {a : α} (h : a ∉ l) :
    (l ++ [a]).takeWhile (· != a) = l.takeWhile (· != a) := by
  have hn : ∀ x ∈ l, (x != a) = true := fun x hx => by
    rw [bne_iff_ne]
    rintro rfl
    exact h hx
  rw [List.takeWhile_append_of_pos hn, List.takeWhile_eq_self_iff.mpr hn]
  simp

/-- An event that acts alone leaves the same events in flight whether or not it was sent. -/
@[simp] theorem State.consume_sent (s : State) (i : Instr) : (s.sent i).consume i = s.consume i := by
  by_cases h : i ∈ s.posted
  · rw [State.sent_of_mem h]
  · rw [State.sent_of_not_mem h]
    simp only [State.consume, State.post_posted, State.post_sources, takeWhile_append_of_not_mem h,
      List.erase_append_right _ h, List.erase_of_not_mem h]
    simp [State.post]

theorem withSources_map_fst (is : List Instr) (xs : List DetectSource) : (withSources is xs).map (·.1) = is := by
  induction is generalizing xs with
  | nil => rfl
  | cons i is ih => cases h : fromDetect i <;> simp [withSources, h, ih]

/-- The events in flight, without what made them. -/
@[simp] theorem State.flight_map_fst (s : State) : s.flight.map (·.1) = s.posted := withSources_map_fst _ _

/-- Only the detect unit's events have a source of their own. -/
theorem State.mem_flight {s : State} {x : Instr × DetectSource} (h : x ∈ s.flight) :
    x.1 ∈ s.posted ∧ (x.2 ≠ .asked → fromDetect x.1 = true) := by
  refine ⟨s.flight_map_fst ▸ List.mem_map_of_mem h, fun hx => ?_⟩
  have fold (is : List Instr) (xs : List DetectSource) : x ∈ withSources is xs → fromDetect x.1 = true := by
    induction is generalizing xs with
    | nil => simp [withSources]
    | cons i is ih =>
      cases hi : fromDetect i
      · simp only [withSources, hi, Bool.false_eq_true, if_false, List.mem_cons]
        rintro (rfl | hm)
        · exact absurd rfl hx
        · exact ih _ hm
      · simp only [withSources, hi, if_true, List.mem_cons]
        rintro (rfl | hm)
        · exact hi
        · exact ih _ hm
  exact fold _ _ h

/-- What is kept of some events is among them, and has the property or is what another of those kept may not overtake. -/
theorem Image.mem_upTo {img : Image} {p : Instr × DetectSource → Bool} {es : List (Instr × DetectSource)}
    {x : Instr × DetectSource} (h : x ∈ img.upTo p es) :
    x ∈ es ∧ (p x = true ∨ ∃ y ∈ img.upTo p es, img.follows y x = true) := by
  induction es with
  | nil => exact absurd h List.not_mem_nil
  | cons e es ih =>
    unfold Image.upTo at h ih ⊢
    simp only [List.foldr_cons] at h ⊢
    split at h
    · rename_i he
      rw [if_pos he]
      rcases List.mem_cons.mp h with rfl | h
      · refine ⟨List.mem_cons_self, ?_⟩
        rcases Bool.or_eq_true_iff.mp he with hp | hk
        · exact .inl hp
        · obtain ⟨y, hy, hf⟩ := List.any_eq_true.mp hk
          exact .inr ⟨y, List.mem_cons_of_mem _ hy, hf⟩
      · obtain ⟨hm, hk⟩ := ih h
        exact ⟨List.mem_cons_of_mem _ hm, hk.imp_right fun ⟨y, hy, hf⟩ => ⟨y, List.mem_cons_of_mem _ hy, hf⟩⟩
    · rename_i he
      rw [if_neg he]
      obtain ⟨hm, hk⟩ := ih h
      exact ⟨List.mem_cons_of_mem _ hm, hk⟩

/-- Where no event has the property, none is kept. -/
theorem Image.upTo_eq_nil {img : Image} {p : Instr × DetectSource → Bool} {es : List (Instr × DetectSource)}
    (h : ∀ x ∈ es, p x = false) : img.upTo p es = [] := by
  induction es with
  | nil => rfl
  | cons e es ih =>
    have := ih fun x hx => h x (List.mem_cons_of_mem _ hx)
    unfold Image.upTo at this ⊢
    simp [this, h e List.mem_cons_self]

/-- A property of the events that is handed on to what they may not overtake holds of all that is kept. -/
theorem Image.upTo_all {img : Image} {p : Instr × DetectSource → Bool} {Q : Instr × DetectSource → Prop}
    {es : List (Instr × DetectSource)} (hp : ∀ x ∈ es, p x = true → Q x)
    (hf : ∀ x ∈ es, ∀ y, Q y → img.follows y x = true → Q x) : ∀ x ∈ img.upTo p es, Q x := by
  induction es with
  | nil => exact fun x hx => absurd hx List.not_mem_nil
  | cons e es ih =>
    have ih := ih (fun x hx => hp x (List.mem_cons_of_mem _ hx)) fun x hx => hf x (List.mem_cons_of_mem _ hx)
    unfold Image.upTo at ih ⊢
    simp only [List.foldr_cons]
    split
    · rename_i he
      intro x hx
      rcases List.mem_cons.mp hx with rfl | hx
      · rcases Bool.or_eq_true_iff.mp he with h | h
        · exact hp x List.mem_cons_self h
        · obtain ⟨y, hy, h⟩ := List.any_eq_true.mp h
          exact hf x List.mem_cons_self y (ih y hy) h
      · exact ih x hx
    · exact ih

/-- What an event may not overtake is in flight. -/
theorem State.mem_older {s : State} {i j : Instr} (h : j ∈ s.older i) :
    j ∈ s.posted ∧ ∃ k x, s.config.follows k (j, x) = true := by
  obtain ⟨⟨j, x⟩, hx, rfl⟩ := List.mem_map.mp h
  obtain ⟨hm, hk⟩ := Image.mem_upTo hx
  refine ⟨(State.mem_flight ((List.takeWhile_sublist _).subset hm)).1, ?_⟩
  rcases hk with hk | ⟨k, -, hk⟩
  · exact ⟨_, x, hk⟩
  · exact ⟨k, x, hk⟩

theorem State.older_of_posted_nil {s : State} (i : Instr) (h : s.posted = []) : s.older i = [] := by
  simp [State.older, State.flight, h, withSources, Image.upTo]

theorem takeInOrder_of_not_running {i : Instr} {s : State} (h : s.running = false) :
    takeInOrder i s = .next (s.consume i) := by
  simp [takeInOrder, h]

/-- An event with nothing before it that it may not overtake acts alone. -/
theorem takeInOrder_of_no_older {i : Instr} {s : State} (h : s.running = true) (ho : s.older i = []) :
    takeInOrder i s = .next (deliver i (s.consume i)) := by
  simp [takeInOrder, h, ho, serve]

/-- What stands before an event that nobody sent stands before it once it is sent. -/
theorem State.older_sent (s : State) (i : Instr) : (s.sent i).older i = s.older i := by
  by_cases h : i ∈ s.posted
  · rw [State.sent_of_mem h]
  · have hs : (s.post i).sent i = s.post i := State.sent_of_mem (by simp [State.post])
    have hw (is : List Instr) (xs : List DetectSource) (hi : i ∉ is) :
        (withSources (is ++ [i]) xs).takeWhile (·.1 != i) = (withSources is xs).takeWhile (·.1 != i) := by
      induction is generalizing xs with
      | nil => cases hd : fromDetect i <;> simp [withSources, hd]
      | cons j is ih =>
        have hj : (j != i) = true := by
          rw [bne_iff_ne]
          rintro rfl
          exact hi List.mem_cons_self
        have ih := fun ys => ih ys fun hm => hi (List.mem_cons_of_mem _ hm)
        cases hd : fromDetect j <;> simp [withSources, hd, hj, ih]
    rw [State.sent_of_not_mem h]
    unfold State.older State.sourceOf
    rw [hs, State.sent_of_not_mem h]
    exact congrArg (fun es => ((s.config.upTo _ es).map (·.1))) (hw s.posted s.sources h)

/-- An event that nobody sent acts as if it had just been sent (log 3). -/
theorem takeInOrder_sent {i : Instr} {s : State} (h : s.running = true) : takeInOrder i s = takeInOrder i (s.sent i) := by
  have hr : (s.sent i).running = true := by
    unfold State.sent
    split <;> simpa [State.running, State.released] using h
  have hs : (s.sent i).sent i = s.sent i := by
    by_cases hi : i ∈ s.posted
    · rw [State.sent_of_mem hi, State.sent_of_mem hi]
    · rw [State.sent_of_not_mem hi]
      exact State.sent_of_mem (by simp [State.post])
  simp only [takeInOrder, h, hr, if_true, State.older_sent, hs]

/-- What the taking of every event keeps, the taking of several in turn keeps. -/
theorem foldl_serve_keeps {P : State → Prop} {Q : Instr → Prop} (ha : ∀ j s, Q j → P s → P (serve s j)) :
    ∀ (is : List Instr) (s : State), (∀ j ∈ is, Q j) → P s → P (is.foldl serve s)
  | [], _, _, hs => hs
  | j :: is, s, hi, hs =>
    foldl_serve_keeps ha is _ (fun k hk => hi k (List.mem_cons_of_mem _ hk)) (ha j s (hi j List.mem_cons_self) hs)

/-- What posting the event and every event that is taken keep, the event keeps that takes others before it. -/
theorem takeInOrder_keeps {P : State → Prop} {i : Instr} {s t : State} (hp : P s → P (s.post i))
    (hc : P s → P (s.consume i))
    (ha : ∀ j s, j = i ∨ (∃ k x img, Image.follows img k (j, x) = true) → P s → P (serve s j))
    (h : takeInOrder i s = .next t) (hs : P s) : P t := by
  unfold takeInOrder at h
  injection h with h
  subst h
  split
  · refine foldl_serve_keeps ha _ _ (fun j hj => ?_) ?_
    · rcases List.mem_append.mp hj with hj | hj
      · obtain ⟨-, k, x, hf⟩ := State.mem_older hj
        exact .inr ⟨k, x, s.config, hf⟩
      · exact .inl (List.mem_singleton.mp hj)
    · unfold State.sent
      split
      · exact hs
      · exact hp hs
  · exact hc hs

theorem strobe_of_released {act : State → State} {s : State} (h : s.phase = .released) :
    strobe act s = .next (act s) := by
  simp [strobe, State.released, h]

theorem strobe_of_not_released {act : State → State} {s : State} (h : s.phase ≠ .released) :
    strobe act s = .next s := by
  simp [strobe, State.released, h]

theorem writeCmd_of_ready {code : Byte} {act : State → State} {s : State} (h : s.unit = .ready) :
    writeCmd code act s = act (s.taken code) := by
  simp [writeCmd, h, takeCommand, State.taken]

theorem writeCmd_of_busy {code : Byte} {act : State → State} {s : State} (h : s.unit ≠ .ready) :
    writeCmd code act s = { s with overrun := true } := by
  unfold writeCmd
  split
  · contradiction
  · rfl
  · rfl

theorem immediate_of_takesCommands {code : Byte} {owner : State → ResultCode × State} {s : State} (h : s.takesCommands) :
    immediate code owner s = .next ((owner (s.taken code)).2.completed (owner (s.taken code)).1) := by
  simp [immediate, strobe_of_released h.1, writeCmd_of_ready h.2, complete, State.completed]

theorem longCommand_of_takesCommands {code : Byte} {start : State → ResultCode ⊕ LongOp} {s : State} (h : s.takesCommands) :
    longCommand code start s = .next (match start (s.taken code) with
      | .inl r => (s.taken code).completed r
      | .inr op => { s.taken code with unit := .executing op }) := by
  rw [longCommand, strobe_of_released h.1, writeCmd_of_ready h.2]
  cases start (s.taken code) <;> rfl

theorem finOfByte_of_toNat {n : Nat} {v : Byte} {k : Fin n} (h : v.toNat = k.val) : finOfByte n v = some k := by
  unfold finOfByte
  split
  · exact congrArg some (Fin.ext h)
  · exact absurd (h ▸ k.isLt) (by assumption)

theorem finOfByte_none {n : Nat} {v : Byte} (h : n ≤ v.toNat) : finOfByte n v = none := by
  simp [finOfByte, Nat.not_lt.mpr h]

/-- A command on a load acts on the load that ARG0 names (R149). -/
theorem onLoad_of_arg {act : Load → State → ResultCode × State} {s : State} {code : Byte} {l : Load}
    (h : s.args[0].toNat = l.val) : onLoad act (s.taken code) = act l (s.taken code) := by
  simp [onLoad, argLoad, State.taken, finOfByte_of_toNat h]

/-! ## Notices -/

theorem handOver_eq (n : Notice) (s : State) : handOver n s = { s with fifo := s.fifoAfter [n] } := by
  simp only [handOver, State.fifoAfter, List.foldl_cons, List.foldl_nil]
  split <;> rfl

theorem fifoAfter_append (s : State) (ms ns : List Notice) :
    s.fifoAfter (ms ++ ns) = ({ s with fifo := s.fifoAfter ms } : State).fifoAfter ns := by
  simp [State.fifoAfter, List.foldl_append]

theorem noteMode_eq (m : Mode) (s : State) : noteMode m s = { s with fifo := s.fifoAfter (modeNotice m s.mode) } := by
  unfold noteMode modeNotice
  split
  · rfl
  · exact handOver_eq _ _

/-! ## Loads -/

theorem enterIdle_eq (l : Load) (s : State) :
    enterIdle l s = s.setLoad l { state := .idle, attempts := 0, cooling := .stopped, stable := .stopped } := rfl

theorem enterDescending_eq (l : Load) (a : After) (s : State) :
    enterDescending l a s = s.setLoad l { s.load l with state := .descending a, stable := .stopped } := rfl

theorem withdraw_eq (l : Load) (st : LoadState) (s : State) :
    withdraw l st s =
      { s with
        loads := s.loads.set l { state := st, attempts := 0, cooling := .stopped, stable := .stopped }
        resume := s.resume.filter (· != l) } := rfl

theorem descendInOrder_eq (l : Load) (a : After) (s : State) :
    descendInOrder l a s =
      { s with
        loads := s.loads.set l { s.load l with state := .descending a, stable := .stopped }
        posted := s.posted ++ [.orderlyDescentOrder l] } := rfl

theorem enqueue_eq (o : Origin) (l : Load) (s : State) :
    enqueue o l s =
      { s with
        loads := s.loads.set l { s.load l with state := .queued }
        queue := insertEntry { load := l, priority := (s.loadConfig l).priority, origin := o, overtaken := 0 } s.queue } := rfl

/-- An arrival splits the queue: before it none of lower priority, behind it one of lower priority first (R23). -/
theorem insertEntry_splits (e : Entry) (q : List Entry) :
    ∃ ahead behind, q = ahead ++ behind ∧ insertEntry e q = ahead ++ e :: behind
      ∧ (∀ x ∈ ahead, e.priority ≤ x.priority) ∧ ∀ x ∈ behind.head?, x.priority < e.priority := by
  induction q with
  | nil => exact ⟨[], [], rfl, rfl, by simp, by simp⟩
  | cons x q ih =>
    by_cases h : x.priority < e.priority
    · exact ⟨[], x :: q, rfl, by simp [insertEntry, h], by simp, by simpa using h⟩
    · obtain ⟨a, b, rfl, hi, ha, hb⟩ := ih
      refine ⟨x :: a, b, rfl, by simp [insertEntry, h, hi], ?_, hb⟩
      intro y hy
      rcases List.mem_cons.mp hy with rfl | hy
      · exact not_lt.mp h
      · exact ha y hy

/-! ## The grant pass -/

theorem grant_eq (e : Entry) (s : State) :
    grant e s =
      { s with
        holders := s.holders ++ [{ load := e.load, amount := s.config.claimOf e.load }]
        loads := s.loads.set e.load { s.load e.load with state := .rising }
        fifo := s.fifoAfter [.granted e.load e.origin]
        posted := s.posted ++ [.grantHandover e.load] } := by
  simp only [grant, handOver_eq]
  rfl

theorem scan_changes (q : List Entry) (s : State) :
    ∃ hs ls fs ps, (scan q s).2.2 = { s with holders := hs, loads := ls, fifo := fs, posted := ps } := by
  induction q generalizing s with
  | nil => exact ⟨_, _, _, _, rfl⟩
  | cons e q ih =>
    unfold scan
    split
    · exact ih s
    · split
      · obtain ⟨hs, ls, fs, ps, h⟩ := ih (grant e s)
        exact ⟨hs, ls, fs, ps, by rw [h, grant_eq]⟩
      · split
        · exact ih s
        · exact ⟨_, _, _, _, rfl⟩

theorem grantPass_changes (s : State) :
    ∃ hs ls fs ps qs, grantPass s = { s with holders := hs, loads := ls, fifo := fs, posted := ps, queue := qs } := by
  unfold grantPass
  split
  · exact ⟨_, _, _, _, _, rfl⟩
  · obtain ⟨hs, ls, fs, ps, h⟩ := scan_changes s.queue s
    exact ⟨hs, ls, fs, ps, _, by dsimp only; rw [h]⟩

theorem grantPass_of_stopped {s : State} (h : s.halted = true ∨ s.over = true) : grantPass s = s := by
  simp [grantPass, h]

theorem grantPass_of_empty {s : State} (h : s.queue = []) : grantPass s = s := by
  unfold grantPass
  split
  · rfl
  · simp only [h, scan]
    exact congrArg (fun q => { s with queue := q }) h.symm

/-! ## Selections -/

theorem lowestYoungest_mem {p : Load → Fin 8} {ls : List Load} {l : Load} (h : lowestYoungest p ls = some l) : l ∈ ls := by
  induction ls generalizing l with
  | nil => simp [lowestYoungest] at h
  | cons x ls ih =>
    unfold lowestYoungest at h
    split at h
    · simp_all
    · split at h
      · simp_all
      · exact List.mem_cons_of_mem _ (ih (by simp_all))

theorem lowestYoungest_least {p : Load → Fin 8} {ls : List Load} {l m : Load} (h : lowestYoungest p ls = some l)
    (hm : m ∈ ls) : p l ≤ p m := by
  induction ls generalizing l m with
  | nil => simp at hm
  | cons x ls ih =>
    unfold lowestYoungest at h
    split at h
    · rename_i hn
      cases ls with
      | nil => simp_all
      | cons y ys =>
        exfalso
        unfold lowestYoungest at hn
        split at hn
        · simp at hn
        · split at hn <;> simp at hn
    · rename_i k hk
      split at h
      · rename_i hlt
        cases h
        rcases List.mem_cons.mp hm with rfl | hm
        · exact le_refl _
        · exact le_of_lt (lt_of_lt_of_le hlt (ih hk hm))
      · rename_i hlt
        cases h
        rcases List.mem_cons.mp hm with rfl | hm
        · exact not_lt.mp hlt
        · exact ih hk hm

theorem select_changes (s : State) :
    ∃ ls ps rs d, select s = { s with loads := ls, posted := ps, resume := rs, descent := d } := by
  unfold select
  split
  · exact ⟨_, _, _, _, rfl⟩
  · exact ⟨_, _, _, _, rfl⟩

theorem selectIfSeeking_changes (s : State) :
    ∃ ls ps rs d, selectIfSeeking s = { s with loads := ls, posted := ps, resume := rs, descent := d } := by
  unfold selectIfSeeking
  split
  · exact select_changes s
  · exact ⟨_, _, _, _, rfl⟩

/-! ## Requests and releases -/

theorem judge_changes (o : Origin) (l : Load) (s : State) :
    ∃ ls ps qs, (judge o l s).2 = { s with loads := ls, posted := ps, queue := qs } := by
  unfold judge
  split
  · exact ⟨_, _, _, rfl⟩
  · split
    · split
      · exact ⟨_, _, _, rfl⟩
      · split <;> exact ⟨_, _, _, rfl⟩
    all_goals exact ⟨_, _, _, rfl⟩

theorem request_changes (o : Origin) (l : Load) (s : State) :
    ∃ ls ps qs hs fs rs d, (request o l s).2 =
      { s with loads := ls, posted := ps, queue := qs, holders := hs, fifo := fs, resume := rs, descent := d } := by
  obtain ⟨ls, ps, qs, h⟩ := judge_changes o l s
  simp only [request]
  split
  · obtain ⟨hs, ls', fs, ps', qs', h'⟩ := grantPass_changes (judge o l s).2
    exact ⟨_, _, _, _, _, _, _, by rw [h', h]⟩
  · obtain ⟨hs, ls', fs, ps', qs', h'⟩ := grantPass_changes (judge o l s).2
    obtain ⟨ls'', ps'', rs, d, h''⟩ := selectIfSeeking_changes (grantPass (judge o l s).2)
    exact ⟨_, _, _, _, _, _, _, by rw [h'', h', h]⟩
  · exact ⟨_, _, _, _, _, _, _, by rw [h]⟩

theorem noteRefusal_eq (l : Load) (r : ResultCode × State) :
    noteRefusal l r =
      { r.2 with fifo := r.2.fifoAfter (if r.1.refusedDetail then [.refused l r.1] else []) } := by
  unfold noteRefusal
  split
  · exact handOver_eq _ _
  · rfl

theorem drainDescendant_changes (s : State) (x : Load) :
    ∃ ls ps, drainDescendant s x = { s with loads := ls, posted := ps } := by
  unfold drainDescendant
  split <;> exact ⟨_, _, rfl⟩

theorem recordToDrain_changes (l : Load) (s : State) :
    ∃ ps rs, recordToDrain l s = { s with posted := ps, seq := rs } := by
  unfold recordToDrain
  dsimp only
  split <;> exact ⟨_, _, rfl⟩

theorem foldl_changes {α : Type} {f : State → α → State}
    (hf : ∀ s x, ∃ ls ps, f s x = { s with loads := ls, posted := ps }) (xs : List α) (s : State) :
    ∃ ls ps, xs.foldl f s = { s with loads := ls, posted := ps } := by
  induction xs generalizing s with
  | nil => exact ⟨_, _, rfl⟩
  | cons x xs ih =>
    obtain ⟨ls, ps, h⟩ := hf s x
    obtain ⟨ls', ps', h'⟩ := ih (f s x)
    exact ⟨ls', ps', by rw [List.foldl_cons, h', h]⟩

theorem beginDrain_changes (l : Load) (s : State) :
    ∃ ls ps rs, beginDrain l s = { s with loads := ls, posted := ps, seq := rs } := by
  unfold beginDrain
  obtain ⟨ls, ps, h⟩ := foldl_changes drainDescendant_changes (s.holdingDescendants l)
    (s.setLoad l { s.load l with state := .draining })
  rw [h]
  obtain ⟨ps', rs, h'⟩ := recordToDrain_changes l
    { s.setLoad l { s.load l with state := .draining } with loads := ls, posted := ps }
  exact ⟨_, _, _, by rw [h']; rfl⟩

theorem releaseByState_changes (l : Load) (s : State) :
    ∃ ls ps qs hs fs rs, (releaseByState l s).2 =
      { s with loads := ls, posted := ps, queue := qs, holders := hs, fifo := fs, seq := rs } := by
  unfold releaseByState
  split
  all_goals try exact ⟨_, _, _, _, _, _, rfl⟩
  · obtain ⟨hs, ls, fs, ps, qs, h⟩ :=
      grantPass_changes (enterIdle l { s with queue := s.queue.filter fun e => e.load != l })
    exact ⟨_, _, _, _, _, _, by rw [h]; rfl⟩
  · dsimp only
    split
    · exact ⟨_, _, _, _, _, _, rfl⟩
    · obtain ⟨ls, ps, rs, h⟩ := beginDrain_changes l s
      exact ⟨_, _, _, _, _, _, by rw [h]⟩

theorem releaseLoad_changes (l : Load) (s : State) :
    ∃ ls ps qs hs fs rs, (releaseLoad l s).2 =
      { s with loads := ls, posted := ps, queue := qs, holders := hs, fifo := fs, seq := rs,
               resume := s.resume.filter (· != l) } := by
  obtain ⟨ls, ps, qs, hs, fs, rs, h⟩ := releaseByState_changes l { s with resume := s.resume.filter (· != l) }
  exact ⟨_, _, _, _, _, _, h⟩

/-! ## Trips and shedding -/

theorem tripDescendant_changes (s : State) (x : Load) :
    ∃ ls ps, tripDescendant s x = { s with loads := ls, posted := ps } := by
  unfold tripDescendant
  dsimp only
  split <;> exact ⟨_, _, rfl⟩

theorem trip_changes (l : Load) (a : After) (s : State) :
    ∃ ls ps, trip l a s = { s with loads := ls, posted := ps } := by
  obtain ⟨ls, ps, h⟩ := foldl_changes tripDescendant_changes (s.holdingDescendants l)
    ((enterDescending l a s).post (.tripOrder l))
  exact ⟨ls, ps, by rw [trip, h]; rfl⟩

theorem shed_changes (v : Load) (s : State) :
    ∃ ls ps fs, shed v s = { s with loads := ls, posted := ps, fifo := fs } := by
  obtain ⟨ls, ps, h⟩ := trip_changes v (shedAfter s v) (handOver (.shed v) s)
  exact ⟨ls, ps, _, by rw [shed, h, handOver_eq]⟩

theorem shedDown_changes (fuel : Nat) (s : State) :
    ∃ ls ps fs, shedDown fuel s = { s with loads := ls, posted := ps, fifo := fs } := by
  induction fuel generalizing s with
  | zero => exact ⟨_, _, _, rfl⟩
  | succ fuel ih =>
    unfold shedDown
    split
    · exact ⟨_, _, _, rfl⟩
    · split
      · exact ⟨_, _, _, rfl⟩
      · rename_i v _
        obtain ⟨ls, ps, fs, h⟩ := shed_changes v s
        obtain ⟨ls', ps', fs', h'⟩ := ih (shed v s)
        exact ⟨ls', ps', fs', by rw [h', h]⟩

theorem recomputeCeiling_changes (s : State) :
    ∃ ls ps fs hs qs, recomputeCeiling s =
      { s with ceiling := s.ceilingNow, loads := ls, posted := ps, fifo := fs, holders := hs, queue := qs } := by
  unfold recomputeCeiling
  dsimp only
  split
  · rename_i h
    exact ⟨_, _, _, _, _, by rw [h]⟩
  · split
    · obtain ⟨ls, ps, fs, h⟩ := shedDown_changes 12 { s with ceiling := s.ceilingNow }
      exact ⟨_, _, _, _, _, by rw [noteMode_eq, h]⟩
    · obtain ⟨hs, ls, fs, ps, qs, h⟩ := grantPass_changes (noteMode s.mode { s with ceiling := s.ceilingNow })
      exact ⟨_, _, _, _, _, by rw [h, noteMode_eq]⟩

/-! ## HALT -/

theorem halt_changes (s : State) :
    ∃ ls qs rs d ps fs, halt s =
      { s with halted := true, loads := ls, queue := qs, resume := rs, descent := d, posted := ps, fifo := fs } := by
  unfold halt
  dsimp only
  split
  · rename_i h
    exact ⟨_, _, _, _, _, _, by rw [← h]⟩
  · split
    · exact ⟨_, _, _, _, _, _, rfl⟩
    · rw [handOver_eq]
      exact ⟨_, _, _, _, _, _, rfl⟩

/-! ## Filters -/

theorem filterTakes_iff {line filtered level : Bool} :
    filterTakes line filtered level = true ↔ line = level ∧ filtered ≠ level := by
  simp [filterTakes]

theorem SlowLine.takes_iff {x : SlowLine} {level : Bool} :
    x.takes level = true ↔ x.filtered ≠ level ∧ x.due.head? = some level := by
  simp [SlowLine.takes]

/-- A filter that stands at a level has no change to it to make. -/
theorem SlowLine.not_takes_took (x : SlowLine) (level : Bool) : (x.took level).takes level = false := by
  simp [SlowLine.takes, SlowLine.took]

/-! ## Channels and presence -/

theorem channelFault_eq (c : Chan) (cause : FaultCause) (s : State) :
    channelFault c cause s =
      { s with
        chans := s.chans.set c { s.chan c with
          lastFault := some cause
          state := .fall
          ramp := .stopped
          discharge := .running (s.chanConfig c).dischargeTime.toNat }
        fifo := s.fifoAfter [.fault c cause]
        posted := s.posted ++ [.faultReport c cause] } := by
  simp only [channelFault, handOver_eq]
  rfl

theorem beginFall_eq (c : Chan) (s : State) :
    beginFall c s = s.setChan c { s.chan c with
      state := .fall
      ramp := .stopped
      discharge := .running (s.chanConfig c).dischargeTime.toNat } := rfl

theorem endFall_eq (c : Chan) (s : State) :
    endFall c s =
      { s with
        chans := s.chans.set c { s.chan c with state := .off, discharge := .stopped, stuck := false, strayNoted := false }
        posted := s.posted ++ [.fallComplete c] } := rfl

theorem enterOn_eq (c : Chan) (s : State) :
    enterOn c s =
      { s with
        chans := s.chans.set c { s.chan c with state := .on, ramp := .stopped }
        posted := s.posted ++ [.channelOn c] } := rfl

theorem noteStray_changes (c : Chan) (s : State) : ∃ cs fs, noteStray c s = { s with chans := cs, fifo := fs } := by
  unfold noteStray
  split
  · rw [handOver_eq]
    exact ⟨_, _, rfl⟩
  · exact ⟨_, _, rfl⟩

theorem reportPresence_changes (c : Chan) (present : Bool) (s : State) :
    ∃ ps fs xs, reportPresence c present s = { s with posted := ps, fifo := fs, sources := xs } := by
  unfold reportPresence
  split
  · exact ⟨_, _, _, rfl⟩
  all_goals
    simp only [handOver_eq]
    cases present <;> split <;> exact ⟨_, _, _, rfl⟩

theorem settlePresence_changes (c : Chan) (s : State) :
    ∃ cs ps fs xs, settlePresence c s = { s with chans := cs, posted := ps, fifo := fs, sources := xs } := by
  unfold settlePresence
  dsimp only
  split
  · exact ⟨_, _, _, _, rfl⟩
  · obtain ⟨ps, fs, xs, e⟩ := reportPresence_changes c (s.chan c).det
      (s.setChan c { s.chan c with present := (s.chan c).det, debounce := .stopped })
    exact ⟨_, _, _, _, by rw [e]; rfl⟩

theorem debounce_changes (c : Chan) (s : State) :
    ∃ cs ps fs xs, debounce c s = { s with chans := cs, posted := ps, fifo := fs, sources := xs } := by
  unfold debounce
  dsimp only
  split
  · exact ⟨_, _, _, _, rfl⟩
  · split
    · exact settlePresence_changes c s
    · exact ⟨_, _, _, _, rfl⟩

theorem represent_changes (source : DetectSource) (s : State) (c : Chan) :
    ∃ ps xs, represent source s c = { s with posted := ps, sources := xs } := by
  unfold represent
  split <;> exact ⟨_, _, rfl⟩

theorem representLoad_changes (l : Load) (s : State) : ∃ ps xs, representLoad l s = { s with posted := ps, sources := xs } := by
  unfold representLoad
  split
  · exact ⟨_, _, rfl⟩
  · exact represent_changes .asked s _

/-! ## What a command may not overtake -/

/-- What a request or a release of the detect unit can do (R136, R137). -/
theorem serve_detect_changes {i : Instr} (h : fromDetect i = true) (s : State) :
    ∃ ls ps qs hs fs rs d rc xs, serve s i =
      { s with loads := ls, posted := ps, queue := qs, holders := hs, fifo := fs, resume := rs, descent := d, seq := rc,
               sources := xs } := by
  unfold serve
  cases i with
  | autoRequest l =>
    obtain ⟨_, _, _, _, _, _, _, e⟩ := request_changes .auto l (s.consume (.autoRequest l))
    exact ⟨_, _, _, _, _, _, _, _, _, by rw [deliver, takeAutoRequest, noteRefusal_eq, e]; rfl⟩
  | autoRelease l =>
    obtain ⟨_, _, _, _, _, _, e⟩ := releaseLoad_changes l (s.consume (.autoRelease l))
    exact ⟨_, _, _, _, _, _, _, _, _, by rw [deliver, takeAutoRelease, e]; rfl⟩
  | _ => exact absurd h (by simp [fromDetect, detectLoad])

theorem settleFor_of_not_running {p : Instr → DetectSource → Bool} {s : State} (h : s.running = false) :
    settleFor p s = s := by
  simp [settleFor, h]

/-- Where nothing in flight has the property, nothing is taken. -/
theorem settleFor_of_none {p : Instr → DetectSource → Bool} {s : State} (h : ∀ x ∈ s.flight, p x.1 x.2 = false) :
    settleFor p s = s := by
  simp [settleFor, Image.upTo_eq_nil h]

/-- What the events keep that have the property, and those that these may not overtake, the settling keeps. -/
theorem settleFor_keeps {P : State → Prop} {p : Instr → DetectSource → Bool} {s : State}
    (ha : ∀ j s, (∃ x, p j x = true) ∨ (∃ k x img, Image.follows img k (j, x) = true) → P s → P (serve s j)) (hs : P s) :
    P (settleFor p s) := by
  unfold settleFor
  split
  · refine foldl_serve_keeps ha _ _ (fun j hj => ?_) hs
    obtain ⟨⟨j, x⟩, hx, rfl⟩ := List.mem_map.mp hj
    rcases (Image.mem_upTo hx).2 with h | ⟨k, -, h⟩
    · exact .inl ⟨x, h⟩
    · exact .inr ⟨k, x, s.config, h⟩
  · exact hs

/-- An event of the detect unit waits for events of the detect unit only. -/
theorem fromDetect_of_follows {img : Image} {k x : Instr × DetectSource} (hk : fromDetect k.1 = true)
    (hx : x.2 ≠ .asked → fromDetect x.1 = true) (h : img.follows k x = true) : fromDetect x.1 = true := by
  obtain ⟨k, y⟩ := k
  obtain ⟨i, z⟩ := x
  cases k <;> simp [fromDetect, detectLoad] at hk
  all_goals
    by_cases hz : z = .asked
    · subst hz
      cases i <;> simp [Image.follows, sameLink, linkOf] at h <;> simp [fromDetect, detectLoad]
    · exact hx hz

/-- What the requests and releases of the detect unit change that are settled (R141; log 27). -/
theorem settleFor_changes {p : Instr → DetectSource → Bool} {s : State}
    (hp : ∀ x ∈ s.flight, p x.1 x.2 = true → fromDetect x.1 = true) :
    ∃ ls ps qs hs fs rs d rc xs, settleFor p s =
      { s with loads := ls, posted := ps, queue := qs, holders := hs, fifo := fs, resume := rs, descent := d, seq := rc,
               sources := xs } := by
  have fold (is : List Instr) (hi : ∀ i ∈ is, fromDetect i = true) (s : State) :
      ∃ ls ps qs hs fs rs d rc xs, is.foldl serve s =
        { s with loads := ls, posted := ps, queue := qs, holders := hs, fifo := fs, resume := rs, descent := d, seq := rc,
                 sources := xs } := by
    induction is generalizing s with
    | nil => exact ⟨_, _, _, _, _, _, _, _, _, rfl⟩
    | cons i is ih =>
      obtain ⟨_, _, _, _, _, _, _, _, _, h⟩ := serve_detect_changes (hi i List.mem_cons_self) s
      obtain ⟨_, _, _, _, _, _, _, _, _, h'⟩ := ih (fun j hj => hi j (List.mem_cons_of_mem _ hj)) (serve s i)
      exact ⟨_, _, _, _, _, _, _, _, _, by rw [List.foldl_cons, h', h]⟩
  unfold settleFor
  split
  · refine fold _ (fun i hi => ?_) s
    obtain ⟨x, hx, rfl⟩ := List.mem_map.mp hi
    exact Image.upTo_all (Q := fun x => fromDetect x.1 = true) hp
      (fun x hx y hy hf => fromDetect_of_follows hy (State.mem_flight hx).2 hf) x hx
  · exact ⟨_, _, _, _, _, _, _, _, _, rfl⟩

end Sys2Proof.Machine
end

