-- ==== Sys2Proof/Tests/Slice0.lean ====
section
/-! SUPPORT. Tests: ill-formed commands, single steps whose results stand in the manual's examples and tables, and for every statement
with hypotheses a state that meets them, clause by clause. -/

namespace Sys2Proof.Tests

open Sys2Proof Sys2Proof.Machine

/-! ## Small states -/

/-- The board of 1.10: L1 (CH1, 12 BU, priority 3), L2 (CH2, 20 BU, priority 5), L8 (G0: CH4 6 BU, CH5 8 BU, priority 4). -/
def board : Image :=
  { Image.factory with
    channels := #v[ChannelConfig.factory, { ChannelConfig.factory with enabled := true, claim := 12, detect := .auto },
      { ChannelConfig.factory with enabled := true, claim := 20, debounce := 0, detect := .auto }, ChannelConfig.factory,
      { ChannelConfig.factory with enabled := true, claim := 6 }, { ChannelConfig.factory with enabled := true, claim := 8 },
      { ChannelConfig.factory with enabled := true, claim := 50 }, { ChannelConfig.factory with enabled := true }]
    loads := #v[LoadConfig.factory, { LoadConfig.factory with priority := 3, bootOn := true },
      { LoadConfig.factory with priority := 5, retryLimit := 2, requeueAfterShed := true, resumeAfterStandby := true },
      LoadConfig.factory, LoadConfig.factory, LoadConfig.factory, LoadConfig.factory,
      { LoadConfig.factory with parent := some 2 }, { LoadConfig.factory with priority := 4 }, LoadConfig.factory,
      LoadConfig.factory, LoadConfig.factory]
    groups := #v[{ members := [4, 5], stagger := 0 }, GroupConfig.factory, GroupConfig.factory, GroupConfig.factory]
    full := 40
    reduced := 20 }

/-- The part in service with that board, LOWSUP deasserted, every load that can be requested IDLE. -/
def idlePart : State :=
  { State.reset with
    phase := .released
    unit := .ready
    config := board
    ceiling := 40
    loads := Vector.ofFn fun l => startLoad board l }

/-- A load's state, in the load table alone. -/
def withState (l : Load) (st : LoadState) (s : State) : State := s.setLoad l { s.load l with state := st }

/-- A holder at the end of the holder list, with its state. -/
def withHolder (l : Load) (amount : Nat) (st : LoadState) (s : State) : State :=
  { withState l st s with holders := s.holders ++ [{ load := l, amount := amount }] }

/-- An entry at the tail of the wait queue, with its load QUEUED. -/
def withEntry (l : Load) (priority : Fin 8) (overtaken : Nat) (s : State) : State :=
  { withState l .queued s with
    queue := s.queue ++ [{ load := l, priority := priority, origin := .host, overtaken := overtaken }] }

/-- ARG0. -/
def withArg (v : Byte) (s : State) : State := { s with args := s.args.set 0 v }

/-- A channel's record. -/
def withChan (c : Chan) (f : Channel → Channel) (s : State) : State := s.setChan c (f (s.chan c))

/-- A line that has held a level for its 2 ms, with the filtered level still to follow; and one that stands settled. -/
def held (level : Bool) : SlowLine := { line := level, filtered := !level, qualify := .stopped, due := [level] }
def settledAt (level : Bool) : SlowLine := { line := level, filtered := level, qualify := .stopped, due := [] }
def withStby (x : SlowLine) (s : State) : State := { s with stby := x }
def withLowsup (x : SlowLine) (s : State) : State := { s with lowsup := x }

/-- A channel in RAMP, in ON and in FALL, as its state needs its timers and its PG. -/
def ramping (ch : Channel) : Channel := { ch with state := .ramp, ramp := .running 10 }
def switchedOn (ch : Channel) : Channel := { ch with state := .on, pg := true, pgLine := true }
/-- A channel in ON whose PG line has gone low. -/
def losingPg (ch : Channel) : Channel := { switchedOn ch with pgLine := false }
def falling (ch : Channel) : Channel := { ch with state := .fall, discharge := .running 10 }
def stuckHigh (ch : Channel) : Channel :=
  { ch with state := .fall, discharge := .expired, stuck := true, pg := true, pgLine := true }

/-- A load sequencer record of the board's group. -/
def groupRecord (phase : Phase) (step : Nat) (out : List Chan) : SeqRecord :=
  { phase := phase, step := step, stagger := .stopped, outSet := out, onSet := [], stalled := false, drainReported := false }

/-- The parent L2 UP, its child L7 a holder in the given state. -/
def family (child : LoadState) : State := withHolder 7 1 child (withHolder 2 20 .up idlePart)

/-- The state after one command. -/
def after (i : Instr) (s : State) : State :=
  match exec i s with
  | .next t => t
  | .fault _ | .refused _ => s

/-! ## Ill-formed commands -/

theorem test_unknown_needs_a_free_code :
    (Instr.unknown 0x20).wellFormed = false ∧ (Instr.unknown 0x00).wellFormed = true := by decide
theorem test_halt_request_needs_bit_2 :
    (Instr.haltRequest 0x03).wellFormed = false ∧ (Instr.haltRequest 0x04).wellFormed = true := by decide
theorem test_nie_die_write_needs_bit_2_clear :
    (Instr.nieDieWrite 0x04).wellFormed = false ∧ (Instr.nieDieWrite 0x03).wellFormed = true := by decide
theorem test_overrun_clear_needs_bit_4 :
    (Instr.statusOverrunClear 0x0F).wellFormed = false ∧ (Instr.statusOverrunClear 0x10).wellFormed = true := by decide
theorem test_register_write_needs_a_plain_register :
    (Instr.registerWrite .cmd 0x01).wellFormed = false ∧ (Instr.registerWrite .arg0 0x01).wellFormed = true
      ∧ (Instr.registerWrite .status 0x10).wellFormed = false := by decide
theorem test_no_block_hands_over_overflow :
    (Instr.noticeHandover (.overflow 1)).wellFormed = false ∧ (Instr.noticeHandover (.shed 3)).wellFormed = true := by decide
theorem test_refused_carries_a_refusal :
    (Instr.noticeHandover (.refused 3 .done)).wellFormed = false
      ∧ (Instr.noticeHandover (.refused 3 .halted)).wellFormed = true := by decide

/-! ## The example of 1.10: one account through a re-request -/

/-- 1.10 step 1. -/
theorem test_first_request_is_granted :
    let t := after .request (withArg 2 idlePart)
    t.result = .accepted ∧ t.holders = [⟨2, 20⟩] ∧ t.headroom = 20 ∧ (t.load 2).state = .rising := by decide
/-- 1.10 step 2: the group claims 6 + 8. -/
theorem test_group_claim_is_the_sum :
    let t := after .request (withArg 8 (withHolder 2 20 .rising idlePart))
    t.holders = [⟨2, 20⟩, ⟨8, 14⟩] ∧ t.committed = 34 ∧ t.headroom = 6 := by decide
/-- 1.10 step 3. -/
theorem test_claim_above_headroom_waits :
    let t := after (.autoRequest 1) (withHolder 8 14 .rising (withHolder 2 20 .rising idlePart))
    t.queue = [⟨1, 3, .auto, 0⟩] ∧ t.committed = 34 := by decide
/-- 1.10 steps 5 and 6. -/
theorem test_released_load_keeps_its_reservation :
    let t := after .release (withArg 2 (withHolder 2 20 .up idlePart))
    (t.load 2).state = .descending .idle ∧ t.committed = 20
      ∧ (after .request t).load 2 = { t.load 2 with state := .descending .requeue } := by decide
/-- 1.10 step 7: L2 goes ahead of L1 and is the youngest holder. -/
theorem test_requeued_load_is_appended_anew :
    let t := after (.descentEnded 2)
      (withEntry 1 3 0 (withHolder 8 14 .up (withHolder 2 20 (.descending .requeue) idlePart)))
    t.holders = [⟨8, 14⟩, ⟨2, 20⟩] ∧ t.queue.map (·.load) = [1] ∧ t.headroom = 6
      ∧ t.fifo.map (·.notice) = [.loadDown 2 .queued, .granted 2 .requeue] := by decide

/-! ## Single steps -/

/-- R88: attempt 2 with base 10 gives 10 × 10 × 2 ms. -/
theorem test_cool_down_doubles :
    let s := withHolder 2 20 (.descending .retry) idlePart
    ((after (.descentEnded 2) (s.setLoad 2 { s.load 2 with attempts := 1 })).load 2).cooling = .running 200 := by decide
/-- R87: a retry limit of 0 locks at the first retry. -/
theorem test_limit_zero_locks :
    ((after (.descentEnded 1) (withHolder 1 12 (.descending .retry) idlePart)).load 1).state = .locked := by decide
/-- R34, R35: under a limit of 1 the large entry is passed once and counts it. -/
theorem test_passed_entry_counts :
    let s := withEntry 1 3 0 (withEntry 2 5 0 (withHolder 8 25 .up idlePart))
    let t := after .grantPass { s with config := { board with overtake := 1 } }
    t.queue = [⟨2, 5, .host, 1⟩] ∧ t.holders.map (·.load) = [8, 1] := by decide
/-- R33: an entry at its limit holds the pass. -/
theorem test_entry_at_limit_holds :
    let t := after .grantPass (withEntry 1 3 0 (withEntry 2 5 0 (withHolder 8 25 .up idlePart)))
    t.queue.map (·.overtaken) = [0, 0] ∧ t.holders.map (·.load) = [8] := by decide
/-- R29: a child waits for its parent. -/
theorem test_child_of_a_rising_parent_waits :
    (after .grantPass (withEntry 7 0 0 (withHolder 2 20 .rising idlePart))).queue.map (·.load) = [7] := by decide
/-- R103, R104: the least important load is shed, with its own after value. -/
theorem test_lowsup_sheds_the_least_important :
    let t := after (.lowsupFilterChange true) (withLowsup (held true) (withHolder 2 20 .up (withHolder 1 12 .up idlePart)))
    (t.load 1).state = .descending .idle ∧ (t.load 2).state = .up ∧ t.ceiling = 20 ∧ t.over = true
      ∧ t.fifo.map (·.notice) = [.shed 1, .mode .shed] := by decide
/-- R107: the over condition clears at the end of the descent, with MODE after LOAD_DOWN. -/
theorem test_over_clears_at_the_end_of_a_descent :
    let t := after (.descentEnded 1)
      { withHolder 2 20 .up (withHolder 1 12 (.descending .idle) idlePart) with ceiling := 20 }
    t.fifo.map (·.notice) = [.loadDown 1 .idle, .mode .run] := by decide
/-- R75: a drain takes the child down with its request kept. -/
theorem test_drain_keeps_the_childs_request :
    let t := after .release (withArg 2 (family .up))
    (t.load 2).state = .draining ∧ (t.load 7).state = .descending .requeue
      ∧ t.posted = [.orderlyDescentOrder 7] := by decide
/-- R83: a fault trips the parent and its child. -/
theorem test_fault_trips_the_family :
    let t := after (.faultReport 2 .pgLost) (family .up)
    (t.load 2).state = .descending .retry ∧ (t.load 7).state = .descending .requeue
      ∧ t.posted = [.tripOrder 2, .tripOrder 7] := by decide
/-- R126: HALT sets every after to IDLE. -/
theorem test_halt_sends_everything_down :
    let t := after (.haltRequest 0x07) (withEntry 1 3 0 (family (.descending .requeue)))
    (t.load 7).state = .descending .idle ∧ (t.load 1).state = .idle ∧ t.queue = [] ∧ t.controlByte = 0x07 := by decide
/-- R126: a load granted anew while the record of its last descent still stands is tripped. -/
theorem test_halt_trips_a_load_granted_again :
    let s := (withHolder 2 20 (.descending .requeue) idlePart).setRecord 2 (some (groupRecord .immediate 0 []))
    let t := after (.haltRequest 0x04) (after (.descentEnded 2) s)
    (t.load 2).state = .descending .idle ∧ t.posted = [.returnReport 2, .grantHandover 2, .tripOrder 2] := by decide
/-- R117: the child is chosen before its parent. -/
theorem test_standby_lowers_the_child_first :
    let t := after .standbyEvent (withStby (held true) (family .up))
    t.descent = .lowering 7 ∧ (t.load 2).state = .up ∧ t.mode = .standby := by decide
/-- R118, R124: a load taken down joins the resume list, and the wake event requests it. -/
theorem test_wake_requests_the_resume_list :
    let t := after .standbyEvent (withStby (held true) (withHolder 2 20 .up idlePart))
    t.resume = [2] ∧ ((after .wakeEvent (withStby (held false) (after (.descentEnded 2) t))).load 2).state = .rising := by
  decide
/-- 3.11: a PG lost in ON starts the fall; a PG that stays high makes it stuck. -/
theorem test_pg_lost_starts_the_fall :
    let t := after (.pgFall 2) (withChan 2 losingPg idlePart)
    (t.chan 2).state = .fall ∧ (t.chan 2).discharge = .running 10 ∧ (t.chan 2).lastFault = some .pgLost := by decide
/-- R42: a rise whose line has returned within its 100 us is discarded. -/
theorem test_interrupted_rise_is_discarded :
    let t := after (.pgRise 2) (after (.pgLineChange 2 false) (after (.pgLineChange 2 true) (withChan 2 ramping idlePart)))
    (t.chan 2).pg = false ∧ (t.chan 2).state = .ramp := by decide
/-- R113: a standby change that has not held for 2 ms is no event; one that has is, even where the line has left again. -/
theorem test_standby_needs_2_ms :
    let up := after .clockTick (after (.stbyLineChange true) idlePart)
    let gone := after (.stbyLineChange false) up
    let due := after (.stbyLineChange false) (after .clockTick up)
    (after .standbyEvent up).standbyFacet = false ∧ (after .standbyEvent (after .clockTick gone)).standbyFacet = false
      ∧ (after .standbyEvent due).standbyFacet = true
      ∧ (after .wakeEvent (after .clockTick (after .clockTick (after .standbyEvent due)))).standbyFacet = false := by decide
theorem test_pg_stuck_is_recorded :
    let s := withChan 2 (fun ch => { falling ch with pg := true, pgLine := true }) idlePart
    (after (.dischargeTimerExpiry 2) s).fifo.map (·.notice) = [.pgStuck 2] := by decide
theorem test_declare_off_ends_a_stuck_fall :
    let t := after .declareOff (withArg 2 (withChan 2 stuckHigh idlePart))
    t.result = .done ∧ (t.chan 2).state = .off ∧ t.posted = [.fallComplete 2] := by decide
/-- R43, R44: EN under active-high, and high-impedance before the boot load ends. -/
theorem test_en_follows_the_state :
    (withChan 2 ramping idlePart).enPin 2 = .high ∧ idlePart.enPin 2 = .low ∧ State.reset.enPin 2 = .highImpedance := by decide
/-- R69: the lead ramps and the other member waits. -/
theorem test_group_starts_with_its_lead :
    (after (.grantHandover 8) idlePart).posted = [.startRamp 4, .waitTurn 5] := by decide
/-- R70 with stagger 0: the next member starts in the same event. -/
theorem test_next_member_starts_at_once :
    (after (.channelOn 4) (idlePart.setRecord 8 (some (groupRecord .rise 0 [4, 5])))).posted = [.startRamp 5] := by decide
/-- R74: the highest rank falls first. -/
theorem test_highest_rank_falls_first :
    (after (.orderlyDescentOrder 8) (idlePart.setRecord 8 (some (groupRecord .steady 0 [4, 5])))).posted = [.fall 5] := by
  decide
/-- R171, R174: the cycles at offsets 2h and 7h. -/
theorem test_cycles_at_offsets :
    writeCycle 0x2 0x12 = .resume ∧ writeCycle 0x2 0x05 = .unknown 0x05 ∧ writeCycle 0xB 0x55 = .dataWrite 0x55
      ∧ readCycle 0x7 = some .resultRead ∧ registerAt 0x8 = .resultSeq ∧ idlePart.readCycleByte 0x7 = some 0xFF := by decide
/-- R172: STATUS of a part in service with a notice and a result waiting. -/
theorem test_status_byte :
    { idlePart with cmdDone := true, overrun := true, fifo := [⟨.shed 1, 0⟩] : State }.statusByte = 0x13 := by decide
/-- R178, R179: claim of CH2, and the claim of L8 in its load record. -/
theorem test_records_read_back :
    idlePart.dataByte 0x0121 = 20 ∧ idlePart.dataByte 0x0286 = 14 ∧ idlePart.dataByte 0x0147 = 0
      ∧ idlePart.dataByte 0x000F = 0 := by decide
/-- R63, R181: a member of another group is refused with DUPLICATE. -/
theorem test_second_membership_is_refused :
    (after (.dataWrite 4) { idlePart with index := 0x0310 }).rejReason = .duplicate := by decide
/-- R5, R63: a channel written into a group leaves its own load ABSORBED and the group IDLE. -/
theorem test_first_member_makes_the_group :
    let t := after (.dataWrite 3) { idlePart with index := 0x0310 }
    (t.load 3).state = .absorbed ∧ (t.load 9).state = .idle ∧ t.index = 0x0311 := by decide
/-- R141: an attach that comes first is requested before the mode write, which is then refused with STATE. -/
theorem test_attach_before_a_mode_write :
    let s := withChan 2 (fun ch => { ch with detLine := true }) { idlePart with index := 0x0125 }
    let t := after (.dataWrite 1) (after (.detFilterChange 2 true) s)
    t.rejReason = .state ∧ (t.load 2).state = .rising ∧ (t.chanConfig 2).detect = .auto := by decide
/-- R141: an attach that comes before CLEAR meets the LOCKED load, and CLEAR asks again. -/
theorem test_attach_before_clear :
    let s := withArg 2 (withState 2 .locked (withChan 2 (fun ch => { ch with detLine := true }) idlePart))
    let t := after .clear (after (.detFilterChange 2 true) s)
    t.fifo.map (·.notice) = [.attach 2, .refused 2 .locked] ∧ t.posted = [.autoRequest 2] := by decide
/-- R135: the request of a new lead is judged before the write that would take its group away, which is then refused with STATE. -/
theorem test_no_request_meets_an_empty_group :
    let s := withChan 1 (fun ch => { ch with present := true }) { idlePart with index := 0x0310 }
    let t := after (.dataWrite 1) s
    let u := after (.dataWrite 0xFF) { t with index := 0x0310 }
    t.posted = [.autoRequest 9] ∧ u.rejReason = .state ∧ (u.load 9).state = .rising ∧ u.posted ≠ t.posted := by decide
/-- R139, R195: the requests of the completion of a REVERT are refused with HALTED, a RESUME commanded next notwithstanding. -/
theorem test_revert_requests_are_refused :
    let s := withChan 1 (fun ch => { ch with present := true })
      { idlePart with halted := true, config := Image.factory, active := some .a, slotA := ⟨1, board, true⟩ }
    let t := after .resume (after .revertCompletion (after .revert s))
    t.fifo.map (·.notice) = [.refused 1 .halted, .mode .run] ∧ t.halted = false ∧ t.posted = [.autoRequest 1] := by decide
/-- R184: a load field is written while the request of an attach is in flight; the request is then judged with the new value. -/
theorem test_field_write_before_a_request :
    let s := withChan 2 (fun ch => { ch with detLine := true }) { idlePart with index := 0x0220 }
    let t := after (.dataWrite 6) (after (.detFilterChange 2 true) s)
    t.wrej = false ∧ t.posted = [.autoRequest 2] ∧ t.sources = [.change 2] ∧ (t.loadConfig 2).priority = 6
      ∧ (after (.autoRequest 2) t).sources = [] := by decide
/-- R68: a grant commanded while the return report before it is in flight finds the old record removed, and its own stands. -/
theorem test_return_report_comes_before_the_grant :
    let s := { idlePart.setRecord 2 (some (groupRecord .immediate 0 [])) with posted := [.returnReport 2, .grantHandover 2] }
    let t := after (.grantHandover 2) s
    (t.record 2).map (·.phase) = some .rise ∧ t.posted = [.startRamp 2] := by decide
/-- R184: AUTO written as MANUAL while the request of an attach is in flight is accepted, and so is a new lead of its group. -/
theorem test_write_before_a_request :
    let s := after (.detFilterChange 2 true) (withChan 2 (fun ch => { ch with detLine := true }) { idlePart with index := 0x0125 })
    let u := { idlePart with index := 0x0300, posted := [.autoRequest 8] }
    (after (.dataWrite 0) s).posted = [.autoRequest 2] ∧ (after (.dataWrite 0) s).wrej = false
      ∧ (after (.dataWrite 3) u).posted = [.autoRequest 8] ∧ (after (.dataWrite 3) u).wrej = false := by decide
/-- R184: NOTIFY is written to a new lead before the request of the old lead's attach, which is still in flight. -/
theorem test_notify_of_a_new_lead_before_a_request :
    let s := { idlePart with index := 0x0300, posted := [.autoRequest 8], sources := [.change 4] }
    let t := after (.dataWrite 1) { after (.dataWrite 1) s with index := 0x0115 }
    t.wrej = false ∧ (t.chanConfig 1).detect = .notify ∧ t.config.acting 1 = false ∧ t.posted = [.autoRequest 8]
      ∧ (after (.dataWrite 1) s).config.acting 1 = true := by decide
/-- R184: a channel is written into a group while a release for its own load and a request for the group's are in flight. -/
theorem test_member_write_before_a_release :
    let s := { idlePart with index := 0x0302, posted := [.autoRequest 8, .autoRelease 3], sources := [.change 4, .change 3] }
    let t := after (.dataWrite 3) s
    t.wrej = false ∧ t.posted = s.posted ∧ t.sources = s.sources ∧ (t.load 3).state = .absorbed
      ∧ (after (.autoRelease 3) t).sources = [.change 4] := by decide
/-- R82: a trip order that comes after "descent ended" sends no second one. -/
theorem test_one_descent_ended_for_a_descent :
    let s := (withHolder 2 20 (.descending .requeue) idlePart).setRecord 2 (some (groupRecord .orderly 0 []))
    let t := after (.tripOrder 2) { s with posted := [.tripOrder 2, .descentEnded 2] }
    t.posted = [.descentEnded 2] ∧ (t.record 2).map (·.phase) = some .immediate
      ∧ (after (.descentEnded 2) t).posted = [.returnReport 2, .grantHandover 2] := by decide
/-- R77: "drain ended" of a drain that a request has cancelled does not end the next drain. -/
theorem test_drain_ended_belongs_to_its_drain :
    let s := (withArg 2 (family .up)).setRecord 2 (some (groupRecord .steady 0 [2]))
    (after .release { s with posted := [.drainEnded 2] }).posted = [.orderlyDescentOrder 7] := by decide
/-- R82: the fault report of a fall is taken before its fall complete and before "descent ended", whether or not these were sent. -/
theorem test_fault_report_comes_before_the_end_of_its_fall :
    let s := (withHolder 2 20 (.descending .requeue) idlePart).setRecord 2 (some (groupRecord .orderly 0 [2]))
    let t := after (.fallComplete 2) { s with posted := [.faultReport 2 .pgLost, .fallComplete 2] }
    let u := after (.descentEnded 2) { s with posted := [.faultReport 2 .pgLost] }
    (t.load 2).state = .descending .retry ∧ t.posted = [.tripOrder 2, .descentEnded 2] ∧ (u.load 2).state = .cooling
      ∧ after (.fallComplete 2) { s with posted := [.faultReport 2 .pgLost] } = t := by decide
/-- R41: a boot-on child is requested while its boot-on parent is still RISING, and is granted in the pass after LOAD_UP. -/
theorem test_boot_request_of_a_child_comes_before_load_up :
    let boots (l : Load) (img : Image) : Image := { img with loads := img.loads.set l { img.loads[l] with bootOn := true } }
    let s := withHolder 2 20 .rising { idlePart with config := boots 2 (boots 7 board) }
    let t := after (.loadUp 2) { s with posted := [.bootRequest 7, .loadUp 2] }
    t.fifo.map (·.notice) = [.loadUp 2, .granted 7 .boot] ∧ t.posted = [.grantHandover 7] := by decide
/-- R43: a channel whose turn is cancelled is OFF when its load's descent ends. -/
theorem test_cancelled_turn_comes_before_descent_ended :
    let s := withChan 5 (fun ch => { ch with state := .waitTurn }) (withHolder 8 14 (.descending .idle) idlePart)
    let t := after (.descentEnded 8) { s with posted := [.cancelTurn 5, .descentEnded 8] }
    (t.chan 5).state = .off ∧ (t.load 8).state = .idle ∧ t.posted = [.returnReport 8] := by decide
/-- R68: the completion of a REVERT finds no record. -/
theorem test_revert_finds_no_record :
    let s := idlePart.setRecord 2 (some (groupRecord .immediate 0 []))
    let t := after .revertCompletion { s with halted := true, posted := [.returnReport 2], unit := .executing .revert }
    t.record 2 = none ∧ t.posted = [] ∧ t.result = .done := by decide
/-- R128: a RESUME that finds no halt takes nothing in flight. -/
theorem test_resume_in_run_takes_nothing :
    let s := after (.detFilterChange 2 true) (withChan 2 (fun ch => { ch with detLine := true }) idlePart)
    let t := after .resume s
    t.result = .state ∧ t.posted = s.posted ∧ t.loads = s.loads ∧ s.posted = [.autoRequest 2] := by decide
/-- R193: a reset during the final write leaves the target invalid and the other slot as it was. -/
theorem test_reset_spoils_the_target_of_a_save :
    let s := after .saveProfile { idlePart with active := some .a, slotA := ⟨3, board, true⟩ }
    let t := after (.pinReset ⟨.finalWrite, .slotB⟩) s
    t.slotB.valid = false ∧ t.slotA = ⟨3, board, true⟩ := by decide
/-- R66: a parent that leads back is refused with CYCLE. -/
theorem test_parent_cycle_is_refused :
    (after (.dataWrite 7) { idlePart with index := 0x0221 }).rejReason = .cycle := by decide
/-- R162: the fifteenth held record is followed by OVERFLOW. -/
theorem test_sixteenth_place_is_overflow :
    let t := after (.noticeHandover (.shed 1)) { idlePart with fifo := List.replicate 15 ⟨.loadUp 1, 0⟩ }
    t.fifo.length = 16 ∧ t.fifo.getLast? = some ⟨.overflow 1, 0⟩ := by decide
/-- R186: a GRANTED record of L2 with origin BOOT, byte by byte. -/
theorem test_notice_bytes :
    (List.ofFn fun k => recordByte ⟨.granted 2 .boot, 0x1234⟩ k) = [0x01, 0x02, 0x02, 0x34, 0x12] := by decide
/-- R192: the first save goes to slot A with generation 1. -/
theorem test_first_save_goes_to_slot_a :
    let t := after (.saveProfileCompletion true) (after .saveProfile idlePart)
    t.slotA.generation = 1 ∧ t.active = some .a ∧ t.result = .done ∧ t.dataByte 0x0006 = 1 := by decide
/-- R190, R191: with no valid slot the defaults are loaded, BOOT DEFAULTS is recorded, group loads are VOID. -/
theorem test_boot_with_erased_slots :
    let t := after .bootLoadEnd (after .resetRelease State.reset)
    t.unit = .ready ∧ t.fifo.map (·.notice) = [.boot .defaults] ∧ (t.load 8).state = .void ∧ t.ceiling = 0 := by decide
/-- R112: under the defaults a request for a channel load is refused with DISABLED, one for a group load with EMPTY. -/
theorem test_requests_under_the_defaults :
    let t := after .bootLoadEnd (after .resetRelease State.reset)
    (after .request (withArg 0 t)).result = .disabled ∧ (after .request (withArg 8 t)).result = .empty := by decide
/-- Log 1: with no command waiting the part takes its own events, here the grant's hand-over. -/
theorem test_empty_queue_takes_own_event :
    (match step (after .request (withArg 2 idlePart)) with
      | .next t => t.posted
      | .fault _ | .refused _ => []) = [.startRamp 2] := by decide

/-! ## States that meet the statements' hypotheses, clause by clause -/

theorem meets_EveryStepKeepsTheAccount :
    (family .up).accountSound ∧ (withEntry 1 3 0 (family (.descending .retry))).accountSound :=
  ⟨⟨by decide, by decide, by decide, by decide, by decide, by decide, by decide⟩,
    by decide, by decide, by decide, by decide, by decide, by decide, by decide⟩
theorem meets_EveryStepKeepsStandingWithinCeiling : (family .up).accountSound ∧ (family .up).standingFits :=
  ⟨meets_EveryStepKeepsTheAccount.1, by decide⟩
theorem meets_EveryStepKeepsTheFifo :
    ({ idlePart with fifo := List.replicate 15 ⟨.loadUp 1, 0⟩ ++ [⟨.overflow 1, 0⟩], cursor := 4 } : State).fifoSound := by decide
theorem meets_EveryStepKeepsTheChannels : ∀ c : Chan,
    ((withChan 1 ramping (withChan 2 switchedOn (withChan 3 stuckHigh idlePart))).chan c).sound
      ∧ ((withChan 1 ramping (withChan 2 switchedOn (withChan 3 stuckHigh idlePart))).chan c).debounceSound := by decide
theorem meets_EveryStepKeepsTheLoadTimers :
    (family .up).accountSound ∧ ∀ l : Load, ((family .up).load l).sound :=
  ⟨meets_EveryStepKeepsTheAccount.1, by decide⟩
theorem meets_EveryStepKeepsTheStandbyDescent :
    let s := after .standbyEvent (withStby (held true) (withHolder 2 20 .up idlePart))
    (s.descentSound ∧ s.resumeSound ∧ s.standbyStartSound ∧ s.resume = [2])
      ∧ State.reset.running = false ∧ State.reset.standbyStartSound := by decide

theorem meets_EveryCommandGivesANextState :
    State.reset.phase ≠ .released ∧ (after .resetRelease State.reset).unit = .booting
      ∧ (after (.powerLoss ⟨.program, .slotA⟩) idlePart).phase ≠ .released ∧ idlePart.unit ≠ .booting := by decide
theorem meets_RequestOfALoadNotIdle :
    let s (st : LoadState) := withArg 11 (withState 11 st idlePart)
    (s .up).takesCommands ∧ (s .up).args[0].toNat = (11 : Load).val ∧ (s .up).halted = false
      ∧ ({ s .idle with halted := true } : State).halted = true
      ∧ ∀ st ∈ [LoadState.queued, .rising, .up, .descending .requeue, .descending .retry, .cooling, .locked, .absorbed, .void,
          .descending .idle, .draining], ((s st).load 11).state = st := by decide
theorem meets_RequestQueuesAnIdleLoad :
    let s (v : Byte) := withArg v (withEntry 2 5 0 idlePart)
    (∀ v ∈ [(0 : Byte), 1, 6], (s v).takesCommands ∧ (s v).halted = false)
      ∧ ((s 0).load 0).state = .idle ∧ ((s 1).load 1).state = .idle ∧ ((s 6).load 6).state = .idle
      ∧ (∃ c ∈ board.channelsOf 0, ((s 0).chanConfig c).enabled = false)
      ∧ ((∀ c ∈ board.channelsOf 6, ((s 6).chanConfig c).enabled = true) ∧ board.full < board.claimOf 6)
      ∧ ((∀ c ∈ board.channelsOf 1, ((s 1).chanConfig c).enabled = true) ∧ board.claimOf 1 ≤ board.full
        ∧ (s 1).queue.Pairwise fun a b => b.priority ≤ a.priority) := by decide
theorem meets_ReleaseThatLowersNothing :
    let s (st : LoadState) := { withArg 0 (withState 0 st idlePart) with resume := [0, 3] }
    ∀ st ∈ [LoadState.idle, .draining, .descending .idle, .locked, .absorbed, .void, .descending .requeue, .descending .retry,
        .cooling, .queued],
      (s st).takesCommands ∧ (s st).args[0].toNat = (0 : Load).val ∧ ((s st).load 0).state = st := by decide
theorem meets_ReleaseLowersALoad :
    let s (st : LoadState) := withArg 2 (withHolder 2 20 st idlePart)
    (∀ st ∈ [LoadState.rising, .up], (s st).takesCommands ∧ (s st).args[0].toNat = (2 : Load).val ∧ ((s st).load 2).state = st)
      ∧ (s .up).noHoldingDescendant 2 := by decide
theorem meets_ReleaseDrainsTheSubtree :
    let s := withArg 2 (family .rising)
    s.takesCommands ∧ s.args[0].toNat = (2 : Load).val ∧ (s.load 2).state = .up ∧ s.descendantOf 2 2 = false
      ∧ s.holdersSound ∧ ¬s.noHoldingDescendant 2 := by decide
theorem meets_DetectAndBootRequestsAreJudged :
    let s (l : Load) (st : LoadState) := withArg (BitVec.ofNat 8 l.val) (withState l st idlePart)
    let at_ (index : Word16) : State := { idlePart with index := index }
    (s 2 .up).running = true
      ∧ locate (at_ 0x0125).index = .chan 2 .detect ∧ (at_ 0x0125).config.acting 2 = true ∧ board.servedLoad 2 = 2
      ∧ locate (at_ 0x0310).index = .slot 1 0 ∧ locate (at_ 0x0200).index = .load 0 .priority
      ∧ checkWrite (at_ 0x0310) (.slot 1 0) 3 = none ∧ checkWrite (at_ 0x0310) (.slot 1 0) 9 ≠ none
      ∧ ({ s 2 .up with halted := true } : State).halted = true
      ∧ (∀ st ∈ [LoadState.queued, .rising, .up, .descending .requeue, .descending .retry, .cooling, .absorbed, .void, .locked,
          .descending .idle, .draining], ((s 2 st).load 2).state = st ∧ (s 2 st).halted = false)
      ∧ ((s 0 .idle).load 0).state = .idle ∧ (∃ c ∈ board.channelsOf 0, ((s 0 .idle).chanConfig c).enabled = false)
      ∧ ((s 6 .idle).load 6).state = .idle ∧ (¬∃ c ∈ board.channelsOf 6, ((s 6 .idle).chanConfig c).enabled = false)
      ∧ board.full < board.claimOf 6
      ∧ ((s 1 .idle).load 1).state = .idle ∧ (¬∃ c ∈ board.channelsOf 1, ((s 1 .idle).chanConfig c).enabled = false)
      ∧ board.claimOf 1 ≤ board.full := by decide +kernel

theorem meets_GrantPassGrantsInQueueOrder :
    let s := withEntry 2 5 0 idlePart
    s.running = true ∧ s.halted = false ∧ s.over = false ∧ ({ s with halted := true } : State).halted = true
      ∧ ({ family .up with ceiling := 20 } : State).over = true := by decide
theorem meets_GrantPassCountsPassedEntries :
    let s := withEntry 1 3 0 (withEntry 2 5 0 (withHolder 8 25 .up { idlePart with config := { board with overtake := 1 } }))
    s.running = true ∧ s.halted = false ∧ s.over = false ∧ s.queueSound
      ∧ s.bypassed [⟨1, 3, .host, 0⟩] ⟨2, 5, .host, 0⟩ ∧ s.reached [⟨1, 3, .host, 0⟩] ⟨1, 3, .host, 0⟩ := by decide
theorem meets_GrantPassTakesTheFirstThatFits :
    let s := withEntry 1 3 0 (withEntry 7 4 0 idlePart)
    let kept : Image := { board with loads := board.loads.set 7 { board.loads[7] with keepInStandby := true } }
    let f := withEntry 7 4 0 (withHolder 2 20 .up
      { idlePart with config := kept, stby := settledAt true })
    (s.running = true ∧ s.halted = false ∧ s.over = false ∧ s.queue = [⟨7, 4, .host, 0⟩] ++ ⟨1, 3, .host, 0⟩ :: []
      ∧ eligible s ⟨7, 4, .host, 0⟩ = false ∧ (s.loadConfig 1).parent = none ∧ s.standbyFacet = false
      ∧ s.config.claimOf 1 ≤ s.ceiling - s.committed)
    ∧ (f.running = true ∧ f.halted = false ∧ f.over = false ∧ f.queue = [] ++ ⟨7, 4, .host, 0⟩ :: []
      ∧ (f.loadConfig 7).parent = some 2 ∧ (f.load 2).state = .up ∧ f.standbyFacet = true
      ∧ (f.loadConfig 7).keepInStandby = true ∧ f.config.claimOf 7 ≤ f.ceiling - f.committed) := by decide
theorem meets_SurplusGrantPassChangesNothing :
    (withEntry 2 5 0 idlePart).running = true
      ∧ (after .grantPass (withEntry 2 5 0 idlePart)).holders = [⟨2, 20⟩] := by decide
theorem meets_TriggersLeaveNothingToGrant :
    let cool := idlePart.setLoad 2 { state := .cooling, attempts := 1, cooling := .running 0, stable := .stopped }
    let low := withLowsup (held false) { idlePart with ceiling := 20 }
    idlePart.running = true ∧ idlePart.standbyFacet = false ∧ idlePart.descent = .inactive ∧ idlePart.takesCommands
      ∧ ((withHolder 2 20 .rising idlePart).load 2).state = .rising
      ∧ ((withHolder 2 20 (.descending .idle) idlePart).load 2).state = .descending .idle
      ∧ (cool.load 2).state = .cooling ∧ (cool.load 2).cooling ≠ .stopped
      ∧ (withArg 15 idlePart).args[0].toNat ≤ 15
      ∧ ((withArg 2 (withEntry 2 5 0 idlePart)).load 2).state = .queued
      ∧ ((idlePart.load 2).state = .idle ∧ idlePart.verdict 2 = .accepted)
      ∧ (withHolder 2 20 .draining idlePart).verdict 2 = .accepted
      ∧ ({ idlePart with halted := true } : State).halted = true
      ∧ (low.lowsup.filtered ≠ false ∧ low.lowsup.due.head? = some false ∧ low.ceiling < low.config.full)
      ∧ ((withStby (held false) idlePart).stby.filtered = true ∧ (withStby (held false) idlePart).stby.due.head? = some false)
      ∧ ({ idlePart with args := #v[41, 0, 0, 0] } : State).ceiling < 41 := by decide

theorem meets_EventsOfALinkComeInOrder :
    let sent : List Instr := [.returnReport 2, .loadUp 1, .grantHandover 2, .tripOrder 2, .faultReport 2 .pgLost]
    let s : State := { idlePart with posted := sent }
    s.running = true ∧ Instr.fallComplete 2 ∉ s.posted ∧ Instr.grantHandover 2 ∈ s.posted
      ∧ s.older (.grantHandover 2) = [.returnReport 2] ∧ s.older (.loadUp 1) = []
      ∧ ({ idlePart with posted := [.loadUp 1, .autoRequest 2], sources := [.resume] } : State).flight
        = [(.loadUp 1, .asked), (.autoRequest 2, .resume)]
      ∧ (let t (x : DetectSource) : State := { idlePart with posted := [.autoRequest 1, .autoRequest 2], sources := [x, x] }
        (t .resume).older (.autoRequest 2) = [.autoRequest 1] ∧ (t .asked).older (.autoRequest 2) = []
          ∧ settleFor (fun i x => i == .autoRequest 2 && x == .resume) (t .resume) ≠ t .resume)
      ∧ settleFor (fun i _ => isReturn i) { s with posted := [.returnReport 2] } = { s with posted := [] }
      ∧ s.older (.tripOrder 2) = [.returnReport 2, .grantHandover 2] ∧ s.older (.fallComplete 2) = [.faultReport 2 .pgLost]
      ∧ (∀ i ∈ [Instr.descentEnded 2, .drainEnded 2, .faultReport 2 .pgLost, .orderlyDescentOrder 2, .cancelDrain 2,
          .channelOn 2, .fallComplete 2, .autoRequest 2, .autoRelease 2, .bootRequest 2], idlePart.older i = []) := by decide
theorem meets_LoadUpReport :
    idlePart.running = true ∧ ((withHolder 2 20 .rising idlePart).load 2).state = .rising
      ∧ (idlePart.load 2).state ≠ .rising := by decide
theorem meets_LoadTimerExpiries :
    let s := idlePart.setLoad 2 { state := .cooling, attempts := 1, cooling := .running 0, stable := .running 0 }
    s.running = true ∧ (s.load 2).state = .cooling ∧ (s.load 2).cooling ≠ .stopped ∧ (s.load 2).stable ≠ .stopped
      ∧ (s.load 1).state ≠ .cooling ∧ (s.load 1).cooling = .stopped ∧ (s.load 1).stable = .stopped := by decide
theorem meets_DescentEndedSettlesTheLoad :
    ∀ a ∈ [After.idle, .requeue, .retry],
      let s := withHolder 2 20 (.descending a) idlePart
      s.running = true ∧ s.descent = .inactive ∧ (s.load 2).state = .descending a := by decide
theorem meets_FaultReportTripsTheLoad :
    (∀ st ∈ [LoadState.rising, .up, .draining, .descending .idle, .descending .requeue, .descending .retry],
      let s := withHolder 2 20 st idlePart
      s.running = true ∧ (s.load (s.config.servedLoad 2)).state.holding = true
        ∧ s.descendantOf (s.config.servedLoad 2) (s.config.servedLoad 2) = false)
    ∧ (idlePart.load (idlePart.config.servedLoad 2)).state.holding = false := by decide

theorem meets_CeilingIsRecomputed :
    let top : State := { idlePart with args := #v[0xFF, 0x07, 0xFF, 0x07] }
    let fits : State := { withHolder 2 20 .up idlePart with lowsup := settledAt true }
    let sheds : State := { family .up with lowsup := settledAt true }
    (idlePart.running = true ∧ idlePart.lowsup.filtered = false ∧ idlePart.lowsup.due.head? ≠ some true)
      ∧ ((withLowsup (held true) idlePart).lowsup.filtered ≠ true
        ∧ (withLowsup (held true) idlePart).lowsup.due.head? = some true)
      ∧ (top.takesCommands ∧ top.args[0].toNat + 256 * top.args[1].toNat = 2047
        ∧ top.args[2].toNat + 256 * top.args[3].toNat = 2047)
      ∧ idlePart.ceilingNow = idlePart.ceiling
      ∧ ({ idlePart with ceiling := 39 } : State).ceiling < board.full
      ∧ (fits.ceilingNow < fits.ceiling ∧ fits.standingSum ≤ fits.ceilingNow)
      ∧ (sheds.ceilingNow < sheds.ceiling ∧ sheds.ceilingNow < sheds.standingSum ∧ sheds.holdersSound)
      ∧ (sheds.load 7).state.standing = true ∧ sheds.descendantOf 7 7 = false ∧ sheds.descendantOf 7 2 = true := by decide
theorem meets_SetOvertakeReplacesTheLimit :
    (withArg 15 idlePart).takesCommands ∧ (withArg 15 idlePart).args[0].toNat ≤ 15
      ∧ (withArg 16 idlePart).takesCommands ∧ 15 < (withArg 16 idlePart).args[0].toNat := by decide

theorem meets_StandbyEventStartsTheDescent :
    let s := withStby (held true) idlePart
    s.running = true ∧ s.stby.filtered = false ∧ s.stby.due.head? = some true
      ∧ (withStby (settledAt true) idlePart).stby.filtered = true ∧ idlePart.stby.due.head? ≠ some true := by decide
theorem meets_SpacingExpirySelects :
    let s : State := { family .up with descent := .spacing 0 }
    s.running = true ∧ s.holdersSound ∧ s.descent = .spacing 0 ∧ s.lowerable 7
      ∧ (∀ l : Load, ¬({ idlePart with descent := .spacing 0 } : State).lowerable l)
      ∧ idlePart.holdersSound ∧ idlePart.descent = .inactive := by decide
theorem meets_StandbyDescentGoesOn :
    ∀ d ∈ [Descent.inactive, .seeking, .spacing 3, .lowering 2, .lowering 3],
      let s : State := { withHolder 2 20 (.descending .idle) idlePart with descent := d }
      s.running = true ∧ (s.load 2).state = .descending .idle := by decide
theorem meets_WakeReplaysTheResumeList :
    let s : State := { withStby (held false) (withState 1 .locked idlePart) with resume := [1, 2] }
    let halted : State := { withStby (held false) idlePart with halted := true }
    s.running = true ∧ s.stby.filtered = true ∧ s.stby.due.head? = some false ∧ s.halted = false ∧ s.resume.Nodup
      ∧ (halted.running = true ∧ halted.stby.filtered = true ∧ halted.stby.due.head? = some false ∧ halted.resume = [])
      ∧ s.verdict 1 = .locked ∧ s.verdict 2 = .accepted ∧ idlePart.stby.filtered = false := by decide
theorem meets_ControlWriteHalts :
    idlePart.phase = .released ∧ idlePart.halted = false ∧ (0x03 : Byte).getLsbD 2 = false ∧ (0x04 : Byte).getLsbD 2 = true
      ∧ ({ idlePart with halted := true } : State).halted = true
      ∧ (after .resetRelease State.reset).phase = .released ∧ (after .resetRelease State.reset).unit = .booting := by decide
theorem meets_ResumeEndsHalt :
    idlePart.takesCommands ∧ idlePart.halted = false ∧ ({ idlePart with halted := true } : State).takesCommands
      ∧ ({ withStby (settledAt true) idlePart with halted := true } : State).stby.filtered = true := by decide

theorem meets_ChannelOrdersByState :
    let s (f : Channel → Channel) := withChan 2 f idlePart
    idlePart.running = true ∧ (idlePart.chan 2).state = .off
      ∧ (∀ i ∈ [Instr.startRamp 2, .waitTurn 2, .fall 2, .cancelTurn 2], ({ idlePart with posted := [i] } : State).older i = [])
      ∧ ((s fun ch => { ch with state := .waitTurn, flt := true }).chan 2).state = .waitTurn
      ∧ ((s fun ch => { ch with state := .waitTurn, flt := true }).chan 2).flt = true
      ∧ ((s fun ch => { ch with pg := true }).chan 2).pg = true ∧ (idlePart.chan 2).flt = false
      ∧ (idlePart.chan 2).pg = false
      ∧ ((s ramping).chan 2).state = .ramp ∧ ((s switchedOn).chan 2).state = .on ∧ ((s falling).chan 2).state = .fall := by
  decide
theorem meets_PgRiseByState :
    let s (f : Channel → Channel) := withChan 2 (fun ch => { f ch with pgLine := true }) idlePart
    idlePart.running = true ∧ (idlePart.chan 2).pgLine = false
      ∧ (∀ f ∈ [id, ramping, falling, fun ch => { ch with state := .on }],
        ((s f).chan 2).pg = false ∧ ((s f).chan 2).pgLine = true)
      ∧ ((s id).chan 2).state = .off ∧ ((s id).chan 2).strayNoted = false ∧ (idlePart.chanConfig 2).enabled = true
      ∧ (idlePart.chanConfig 0).enabled = false
      ∧ ((s ramping).chan 2).state = .ramp ∧ ((s falling).chan 2).state = .fall
      ∧ ((s switchedOn).chan 2).pg = true := by decide
theorem meets_ChannelFaultsBeginAFall :
    let flt (f : Channel → Channel) := (withChan 2 (fun ch => { f ch with fltLine := true }) idlePart).chan 2
    let r := flt ramping
    let o := flt losingPg
    idlePart.running = true ∧ r.flt = false ∧ r.fltLine = true ∧ r.state = .ramp ∧ r.ramp ≠ .stopped
      ∧ o.flt = false ∧ o.fltLine = true ∧ o.state = .on ∧ o.pg = true ∧ o.pgLine = false := by decide
theorem meets_ChannelEventsWithoutEffect :
    let high (f : Channel → Channel) :=
      (withChan 2 (fun ch => { f ch with pg := true, pgLine := false, flt := true, fltLine := false }) idlePart).chan 2
    let asserted := (withChan 2 (fun ch => { ch with fltLine := true, pgLine := true }) idlePart).chan 2
    idlePart.running = true ∧ (high id).flt = true ∧ (high id).fltLine = false
      ∧ (asserted.flt = false ∧ asserted.fltLine = true ∧ asserted.state = .off ∧ asserted.pgLine = true)
      ∧ (idlePart.chan 2).pg = false ∧ ((high id).pg = true ∧ (high id).pgLine = false) ∧ (high ramping).state = .ramp
      ∧ ((high falling).state = .fall ∧ (high falling).discharge ≠ .expired)
      ∧ (idlePart.chan 2).state ≠ .ramp ∧ (idlePart.chan 2).state ≠ .fall
      ∧ ((withChan 2 stuckHigh idlePart).chan 2).discharge = .expired := by decide
theorem meets_FallEndsWhenDischarged :
    let s (f : Channel → Channel) := withChan 2 f idlePart
    let high (ch : Channel) : Channel := { falling ch with pg := true }
    let ending (ch : Channel) : Channel := { stuckHigh ch with pgLine := false }
    idlePart.running = true ∧ ((s falling).chan 2).state = .fall ∧ ((s falling).chan 2).discharge = .running 10
      ∧ ((s falling).chan 2).pg = false ∧ ((s high).chan 2).pg = true ∧ ((s high).chan 2).discharge = .running 10
      ∧ ((s ending).chan 2).state = .fall ∧ ((s ending).chan 2).discharge = .expired
      ∧ ((s ending).chan 2).pg = true ∧ ((s ending).chan 2).pgLine = false := by decide
theorem meets_DeclareOffAndClear :
    let s := withArg 2 (withState 2 .locked (withChan 2 stuckHigh idlePart))
    s.takesCommands ∧ s.args[0].toNat = (2 : Chan).val ∧ (s.chan 2).state = .fall ∧ (s.chan 2).stuck = true
      ∧ s.args[0].toNat = (2 : Load).val ∧ (s.load 2).state = .locked
      ∧ (withArg 7 idlePart).args[0].toNat = (7 : Chan).val ∧ (idlePart.chan 7).state ≠ .fall
      ∧ (withArg 11 idlePart).args[0].toNat = (11 : Load).val ∧ (idlePart.load 11).state ≠ .locked := by decide

theorem meets_GrantHandoverBeginsBringUp :
    idlePart.running = true ∧ board.channelsOf 8 = 4 :: [5] ∧ board.channelsOf 7 = 7 :: [] := by decide
theorem meets_BringUpGoesMemberByMember :
    let s (r : SeqRecord) := idlePart.setRecord 8 (some r)
    let rise := groupRecord .rise 0 [4, 5]
    let last := { groupRecord .rise 1 [4, 5] with onSet := [4] }
    (s rise).running = true ∧ (s rise).record 8 = some rise ∧ board.servedLoad 4 = 8 ∧ board.servedLoad 5 = 8
      ∧ idlePart.record 8 = none
      ∧ (board.channelsOf 8)[rise.step]? = some 4 ∧ (board.channelsOf 8)[rise.step]? ≠ some 5
      ∧ (board.channelsOf 8)[last.step]? = some 5 ∧ (∀ m ∈ board.channelsOf 8, m ∈ last.onSet ++ [5])
      ∧ (¬∀ m ∈ board.channelsOf 8, m ∈ rise.onSet ++ [4]) ∧ board.staggerOf 8 = 0
      ∧ ({ board with groups := board.groups.set 0 { members := [4, 5], stagger := 255 } } : Image).staggerOf 8 ≠ 0
      ∧ ({ rise with stagger := .running 0 } : SeqRecord).stagger ≠ .stopped
      ∧ (groupRecord .steady 0 []).phase ≠ .rise := by decide
theorem meets_FallCompleteByPhase :
    let s (r : SeqRecord) := idlePart.setRecord 8 (some r)
    (∀ p ∈ [Phase.rise, .steady, .drain, .hold, .orderly, .immediate],
      (s (groupRecord p 1 [4, 5])).running = true
        ∧ (s (groupRecord p 1 [4, 5])).record (board.servedLoad 5) = some (groupRecord p 1 [4, 5]))
      ∧ idlePart.record (board.servedLoad 5) = none
      ∧ (board.channelsOf 8)[(groupRecord .orderly 1 [4, 5]).step]? = some 5
      ∧ (board.channelsOf 8)[(groupRecord .orderly 0 [4, 5]).step]? ≠ some 5 := by decide
theorem meets_DescentOrdersAtTheSequencer :
    let r := groupRecord .rise 0 [4, 5]
    let s := (family .up).setRecord 2 (some (groupRecord .steady 0 [2]))
    idlePart.running = true ∧ idlePart.record 8 = none ∧ (idlePart.setRecord 8 (some r)).record 8 = some r
      ∧ (idlePart.setRecord 8 (some r)).noHoldingDescendant 8 ∧ s.record 2 = some (groupRecord .steady 0 [2])
      ∧ ¬s.noHoldingDescendant 2 ∧ r.phase ≠ .immediate ∧ (groupRecord .immediate 0 [4]).phase = .immediate
      ∧ (groupRecord .orderly 0 []).phase = .orderly ∧ (groupRecord .orderly 0 []).outSet = [] := by decide
theorem meets_ReturnReportReleasesTheHolds :
    let drain := groupRecord .drain 0 [2]
    let s (p : Phase) := (withHolder 2 20 .draining idlePart).setRecord 2 (some (groupRecord p 0 [2]))
    (s .drain).running = true ∧ (s .drain).record 2 = some drain ∧ (s .drain).noHoldingDescendant 2
      ∧ drain.drainReported = false ∧ (s .hold).record 2 = some (groupRecord .hold 0 [2]) ∧ (s .hold).noHoldingDescendant 2
      ∧ (s .drain).record 3 = none ∧ ¬(family .up).noHoldingDescendant 2
      ∧ (s .immediate).record 2 = some (groupRecord .immediate 0 [2]) := by decide
theorem meets_DrainEndsOrIsCancelled :
    let r := groupRecord .drain 0 [2]
    idlePart.running = true ∧ ((withHolder 2 20 .draining idlePart).load 2).state = .draining
      ∧ (idlePart.load 2).state ≠ .draining ∧ (idlePart.setRecord 2 (some r)).record 2 = some r ∧ r.phase = .drain
      ∧ idlePart.record 2 = none := by decide

theorem meets_PresenceIsDebounced :
    let s (f : Channel → Channel) := withChan 1 f idlePart
    let attached : Channel → Channel := fun ch => { ch with detLine := true }
    let out : Channel → Channel := fun ch => { ch with detLine := false, det := true, debounce := .running 0 }
    let both := withChan 1 attached (withChan 2 attached idlePart)
    idlePart.running = true ∧ (idlePart.chan 1).det = false ∧ (idlePart.chan 1).detLine ≠ true
      ∧ (∀ c ∈ [(1 : Chan), 2], (both.chan c).det ≠ true ∧ (both.chan c).detLine = true ∧ (both.chan c).present ≠ true)
      ∧ (idlePart.chanConfig 1).debounce ≠ 0 ∧ (idlePart.chanConfig 2).debounce = 0
      ∧ ((s out).chan 1).det ≠ false ∧ ((s out).chan 1).detLine = false ∧ ((s out).chan 1).present = false
      ∧ ((s out).chan 1).debounce ≠ .stopped ∧ ((s out).chan 1).det ≠ ((s out).chan 1).present
      ∧ ((s fun ch => { ch with debounce := .running 0 }).chan 1).debounce ≠ .stopped
      ∧ (idlePart.chan 1).debounce = .stopped := by decide
theorem meets_CommandWriteIsTakenOrLost :
    let high : State := { idlePart with args := #v[0x00, 0x08, 0, 0] }
    let below : State := { idlePart with args := #v[5, 0, 6, 0] }
    commandCode .request = some 0x01 ∧ commandCode (.unknown 0xFF) = some 0xFF ∧ idlePart.phase = .released
      ∧ idlePart.unit = .ready ∧ ({ idlePart with unit := .executing .erase } : State).unit ≠ .ready
      ∧ (after .resetRelease State.reset).unit ≠ .ready
      ∧ 12 ≤ (withArg 12 idlePart).args[0].toNat ∧ 8 ≤ (withArg 8 idlePart).args[0].toNat
      ∧ 2047 < high.args[0].toNat + 256 * high.args[1].toNat
      ∧ below.args[0].toNat + 256 * below.args[1].toNat < below.args[2].toNat + 256 * below.args[3].toNat := by decide
theorem meets_SnapshotCopiesThePart : (family .up).takesCommands := by decide
theorem meets_SaveProfileWritesTheOtherSlot :
    let full : State := { idlePart with active := some .a, slotA := ⟨65534, board, true⟩ }
    idlePart.takesCommands ∧ idlePart.active = none ∧ full.takesCommands ∧ full.active ≠ none
      ∧ full.slotA.generation = 65534
      ∧ (after .saveProfile idlePart).phase = .released
      ∧ (after .saveProfile idlePart).unit = .executing (.save board .a 1) := by decide
theorem meets_EraseAndRevert :
    let halted : State := { idlePart with halted := true }
    halted.takesCommands ∧ halted.committed = 0 ∧ idlePart.halted = false ∧ (family .up).committed ≠ 0
      ∧ (after .eraseProfiles idlePart).unit = .executing .erase ∧ (after .eraseProfiles idlePart).phase = .released
      ∧ (after .revert halted).unit = .executing .revert ∧ (after .revert halted).phase = .released
      ∧ (after .revert { halted with posted := [.autoRequest 4, .returnReport 2] }).posted = [.autoRequest 4, .returnReport 2]
      ∧ Image.factory.offered 4 = true ∧ board.offered 4 = false := by decide
theorem meets_ReadsWithSideEffects :
    let s : State := { idlePart with fifo := [⟨.shed 1, 7⟩], cursor := 4 }
    idlePart.phase = .released ∧ idlePart.loading = false ∧ (after .resetRelease State.reset).loading = true
      ∧ idlePart.fifo = [] ∧ s.fifo = ⟨.shed 1, 7⟩ :: [] ∧ s.cursor = 4 ∧ idlePart.cursor ≠ 4
      ∧ idlePart.view = none ∧ (after .snapshot idlePart).view ≠ none := by
  decide
theorem meets_NoticeWriteReturnsTheCursor : idlePart.phase = .released ∧ idlePart.cursor = 0 := by decide
theorem meets_PlainRegisterWrites :
    idlePart.phase = .released ∧ (0x10 : Byte).getLsbD 4 = true ∧ (0x0F : Byte).getLsbD 4 = false := by decide
theorem meets_LinesAndStatusShowTheState :
    State.reset.running = false ∧ idlePart.running = true ∧ idlePart.phase = .released ∧ State.reset.phase ≠ .released
      ∧ ((withChan 7 ramping idlePart).chan 7).state = .ramp ∧ (idlePart.chan 7).state = .off := by decide
theorem meets_DataWrite_channel_load_and_information_bytes :
    locate 0x0010 = .wrej ∧ locate 0x000F = .undefined ∧ locate 0x0121 = .chan 2 .claim ∧ locate 0x0127 = .chan 2 .group
      ∧ locate 0x0220 = .load 2 .priority ∧ locate 0x0221 = .load 2 .parent ∧ locate 0x0226 = .load 2 .claimLow :=
  by decide +kernel
theorem meets_DataWrite_group_and_global_bytes :
    locate 0x0310 = .slot 1 0 ∧ locate 0x0308 = .stagger 0 ∧ locate 0x0309 = .memberCount 0 ∧ locate 0x0400 = .spacing
      ∧ locate 0x0401 = .maskLow ∧ locate 0x0402 = .maskHigh ∧ locate 0x0403 = .fullLow ∧ locate 0x0800 = .view 0 :=
  by decide +kernel
theorem meets_DataWriteIsRefusedOrReadsBack :
    let s : State := { idlePart with index := 0x0121 }
    let up := withState 2 .up idlePart
    let member := idlePart.config.groups[(0 : Group)]
    s.phase = .released ∧ s.loading = false ∧ (after .resetRelease State.reset).loading = true ∧ settleForWrite 255 s = s
      ∧ (up.load (board.servedLoad 2)).state ∉ [LoadState.idle, .locked] ∧ (idlePart.load (board.servedLoad 2)).state = .idle
      ∧ (idlePart.load 4).state = .absorbed ∧ (idlePart.loadConfig 7).parent = some 2
      ∧ ((withState 8 .up idlePart).load (groupLoad 0)).state = .up ∧ (idlePart.load (groupLoad 0)).state = .idle
      ∧ member.members = [4, 5] ∧ (idlePart.load (ownLoad 3)).state = .idle ∧ (up.load (ownLoad 2)).state ≠ .idle
      ∧ checkWrite s (locate s.index) 255 = none := by decide
theorem meets_NoticeHandoverFillsTheFifo :
    let held := List.replicate 14 (⟨.loadUp 1, 0⟩ : Record)
    idlePart.running = true ∧ (Notice.shed 1).wellFormed = true ∧ board.mask.getLsbD (kindCode (.shed 1) - 1) = true
      ∧ (0xFEF#12).getLsbD (kindCode (.shed 1) - 1) = false
      ∧ held.length ≤ 14 ∧ 15 ≤ (held ++ [(⟨.overflow 255, 0⟩ : Record)]).length ∧ kindCode (.loadUp 1) ≠ 15
      ∧ (held ++ [(⟨.loadUp 1, 0⟩ : Record)]).length = 15 := by decide
theorem meets_ClockTickCountsAMillisecond :
    State.reset.phase ≠ .released ∧ ({ idlePart with clock := 65535 } : State).clock.toNat = 65535
      ∧ idlePart.phase = .released := by decide
theorem meets_ResetsAbandonEverything :
    State.reset.phase = .held .powerOn ∧ idlePart.phase = .released
      ∧ (after (.powerLoss ⟨.program, .slotA⟩) idlePart).phase = .unpowered
      ∧ (after .saveProfile idlePart).unit = .executing (.save board .a 1)
      ∧ (after .eraseProfiles idlePart).unit = .executing .erase
      ∧ (∀ b x g, idlePart.unit ≠ .executing (.save b x g)) ∧ idlePart.unit ≠ .executing .erase := by
  refine ⟨by decide, by decide, by decide, by decide, by decide, ?_, by decide⟩
  intro b x g h
  exact UnitState.noConfusion h
theorem meets_BootLoadStartsThePart :
    (after .resetRelease State.reset).phase = .released ∧ (after .resetRelease State.reset).unit = .booting
      ∧ (⟨65534, board, true⟩ : Slot).valid = true ∧ Slot.erased.valid = false := by decide

end Sys2Proof.Tests
end

section
/-! The standing sum and the ceiling (R102). Every event of the units either lets no load begin to stand, or is a grant pass, which
runs only in an account that is not over and grants only within the headroom. Where the ceiling itself moves, it rises, or shedding
follows it down, or nothing stands. -/

namespace Sys2Proof.Machine

/-! ## What the standing sum rests on -/

/-- The parts of the state that the standing sum, the ceiling and a grant pass's stop rest on. -/
def State.account (s : State) : Vector LoadRun 12 × List Holder × Nat × Bool := (s.loads, s.holders, s.ceiling, s.halted)

section
variable (s : State)

@[simp] theorem account_post (i : Instr) : (s.post i).account = s.account := rfl
@[simp] theorem account_postAll (is : List Instr) : (s.postAll is).account = s.account := rfl
@[simp] theorem account_consume (i : Instr) : (s.consume i).account = s.account := rfl
@[simp] theorem account_setChan (c : Chan) (x : Channel) : (s.setChan c x).account = s.account := rfl
@[simp] theorem account_setRecord (l : Load) (r : Option SeqRecord) : (s.setRecord l r).account = s.account := rfl
@[simp] theorem account_handOver (n : Notice) : (handOver n s).account = s.account := by rw [handOver_eq]; rfl
@[simp] theorem account_noteMode (m : Mode) : (noteMode m s).account = s.account := by rw [noteMode_eq]; rfl
@[simp] theorem account_complete (r : ResultCode × State) : (complete r).account = r.2.account := rfl
@[simp] theorem account_noteRefusal (l : Load) (r : ResultCode × State) : (noteRefusal l r).account = r.2.account := by
  rw [noteRefusal_eq]; rfl

end

theorem amounts_le_of_sublist {hs ks : List Holder} (h : hs.Sublist ks) : amounts hs ≤ amounts ks :=
  (h.map Holder.amount).sum_le_sum fun _ _ => Nat.zero_le _

theorem standingSum_le_committed (s : State) : s.standingSum ≤ s.committed := amounts_le_of_sublist List.filter_sublist

/-- Where no load stands, nothing is in the standing sum. -/
theorem standingSum_eq_zero {s : State} (h : ∀ l, (s.load l).state.standing = false) : s.standingSum = 0 := by
  simp [State.standingSum, State.standingHolders, h, amounts]

theorem standingFits_of_none_standing {s : State} (h : ∀ l, (s.load l).state.standing = false) : s.standingFits := by
  rw [State.standingFits, standingSum_eq_zero h]
  exact Nat.zero_le _

theorem standingFits_of_holders_nil {s : State} (h : s.holders = []) : s.standingFits := by
  simp [State.standingFits, State.standingSum, State.standingHolders, h, amounts]

/-! ## Changes that let nothing begin to stand -/

/-- From one state to the other no load begins to stand and no holder is added, under the same ceiling. -/
structure OnlyLowers (s t : State) : Prop where
  ceiling_eq : t.ceiling = s.ceiling
  halted_eq : t.halted = s.halted
  holders_sublist : t.holders.Sublist s.holders
  standing_before : ∀ l, (t.load l).state.standing = true → (s.load l).state.standing = true

namespace OnlyLowers

theorem of_account {s t : State} (h : t.account = s.account) : OnlyLowers s t := by
  simp only [State.account, Prod.mk.injEq] at h
  obtain ⟨hl, hh, hc, hb⟩ := h
  exact ⟨hc, hb, hh ▸ List.Sublist.refl _, fun l => by simp [State.load, hl]⟩

theorem refl (s : State) : OnlyLowers s s := of_account rfl

theorem trans {s t u : State} (h : OnlyLowers s t) (k : OnlyLowers t u) : OnlyLowers s u :=
  ⟨k.ceiling_eq.trans h.ceiling_eq, k.halted_eq.trans h.halted_eq, k.holders_sublist.trans h.holders_sublist,
    fun l hl => h.standing_before l (k.standing_before l hl)⟩

/-- What the account does not show may have changed before. -/
theorem after_account {s t u : State} (h : OnlyLowers t u) (k : t.account = s.account) : OnlyLowers s u :=
  (of_account k).trans h

theorem foldl {α : Type} {f : State → α → State} (hf : ∀ s x, OnlyLowers s (f s x)) (xs : List α) (s : State) :
    OnlyLowers s (xs.foldl f s) := by
  induction xs generalizing s with
  | nil => exact refl s
  | cons x xs ih => exact (hf s x).trans (ih (f s x))

/-- A load that stood, or that does not come to stand, takes a new record. -/
theorem setLoad {s : State} {l : Load} {r : LoadRun} (h : r.state.standing = true → (s.load l).state.standing = true) :
    OnlyLowers s (s.setLoad l r) := by
  refine ⟨rfl, rfl, List.Sublist.refl _, fun m hm => ?_⟩
  rw [State.setLoad_load] at hm
  split at hm
  next hlm => exact hlm ▸ h hm
  next => exact hm

/-- Fewer holders stand, with smaller reservations. -/
theorem standingSum_le {s t : State} (h : OnlyLowers s t) : t.standingSum ≤ s.standingSum := by
  have hsub : t.standingHolders.Sublist (s.holders.filter fun k => (t.load k.load).state.standing) :=
    h.holders_sublist.filter _
  exact amounts_le_of_sublist (hsub.trans (List.monotone_filter_right _ fun k => h.standing_before k.load))

theorem standingFits {s t : State} (h : OnlyLowers s t) (hs : s.standingFits) : t.standingFits := by
  rw [State.standingFits, h.ceiling_eq]
  exact h.standingSum_le.trans hs

end OnlyLowers

/-- A change that leaves the account as it is keeps the standing sum within the ceiling. -/
theorem standingFits_of_account {s t : State} (h : t.account = s.account) (hs : s.standingFits) : t.standingFits :=
  (OnlyLowers.of_account h).standingFits hs

/-! ## Changes that keep the budget -/

/-- A change under one ceiling that lets nothing begin to stand, or that leaves all reservations together within the ceiling: the
latter in an arbiter that is not HALTED. -/
inductive BudgetHeld (s t : State) : Prop where
  | lowered (h : OnlyLowers s t)
  | granted (hc : t.ceiling = s.ceiling) (ht : t.halted = s.halted) (hs : s.halted = false) (hfit : t.committed ≤ t.ceiling)

namespace BudgetHeld

theorem of_account {s t : State} (h : t.account = s.account) : BudgetHeld s t := .lowered (.of_account h)

theorem refl (s : State) : BudgetHeld s s := of_account rfl

theorem trans {s t u : State} (h : BudgetHeld s t) (k : BudgetHeld t u) : BudgetHeld s u := by
  cases k with
  | lowered k =>
    cases h with
    | lowered h => exact .lowered (h.trans k)
    | granted hc ht hs hfit =>
      have hle : u.committed ≤ t.committed := amounts_le_of_sublist k.holders_sublist
      exact .granted (k.ceiling_eq.trans hc) (k.halted_eq.trans ht) hs (k.ceiling_eq ▸ hle.trans hfit)
  | granted hc ht hs hfit =>
    cases h with
    | lowered h => exact .granted (hc.trans h.ceiling_eq) (ht.trans h.halted_eq) (h.halted_eq ▸ hs) hfit
    | granted hc' ht' hs' _ => exact .granted (hc.trans hc') (ht.trans ht') hs' hfit

theorem after_account {s t u : State} (h : BudgetHeld t u) (k : t.account = s.account) : BudgetHeld s u :=
  (of_account k).trans h

theorem then_account {s t u : State} (h : BudgetHeld s t) (k : u.account = t.account) : BudgetHeld s u :=
  h.trans (of_account k)

theorem foldl {α : Type} {f : State → α → State} (hf : ∀ s x, BudgetHeld s (f s x)) (xs : List α) (s : State) :
    BudgetHeld s (xs.foldl f s) := by
  induction xs generalizing s with
  | nil => exact refl s
  | cons x xs ih => exact (hf s x).trans (ih (f s x))

theorem standingFits {s t : State} (h : BudgetHeld s t) (hs : s.standingFits) : t.standingFits := by
  cases h with
  | lowered h => exact h.standingFits hs
  | granted _ _ _ hfit => exact (standingSum_le_committed t).trans hfit

/-- While HALTED nothing is granted, so an empty holder list stays empty. -/
theorem holders_nil {s t : State} (h : BudgetHeld s t) (hh : s.halted = true) (hs : s.holders = []) :
    t.halted = true ∧ t.holders = [] := by
  cases h with
  | lowered h => exact ⟨h.halted_eq.trans hh, List.sublist_nil.mp (hs ▸ h.holders_sublist)⟩
  | granted _ _ hf _ => simp [hh] at hf

end BudgetHeld

/-! ## The grant pass -/

/-- Each grant takes its claim out of the headroom that is left (R33). -/
theorem scan_committed_le (q : List Entry) {s : State} (h : s.committed ≤ s.ceiling) :
    (scan q s).2.2.committed ≤ s.ceiling := by
  induction q generalizing s with
  | nil => exact h
  | cons e q ih =>
    unfold scan
    split
    · exact ih h
    · split
      next hroom =>
        have hc : (grant e s).ceiling = s.ceiling := by rw [grant_eq]
        have hg : (grant e s).committed = s.committed + s.config.claimOf e.load := by
          simp [State.committed, grant_eq, amounts]
        have hfit : (grant e s).committed ≤ (grant e s).ceiling := by
          rw [hg, hc]
          unfold State.headroom at hroom
          omega
        exact hc ▸ ih hfit
      next =>
        split
        · exact ih h
        · exact h

theorem grantPass_budgetHeld (s : State) : BudgetHeld s (grantPass s) := by
  unfold grantPass
  split
  · exact .refl s
  next hgo =>
    obtain ⟨hhalt, hover⟩ : s.halted = false ∧ s.over = false := by simpa using hgo
    have hfit : s.committed ≤ s.ceiling := by simpa [State.over] using hover
    obtain ⟨hs, ls, fs, ps, hscan⟩ := scan_changes s.queue s
    have hc : (scan s.queue s).2.2.ceiling = s.ceiling := by rw [hscan]
    have hh : (scan s.queue s).2.2.halted = s.halted := by rw [hscan]
    exact .granted hc hh hhalt (hc.symm ▸ scan_committed_le s.queue hfit)

/-- A grant pass after a change that keeps the budget. -/
theorem BudgetHeld.grantPass {s t : State} (h : BudgetHeld s t) : BudgetHeld s (grantPass t) :=
  h.trans (grantPass_budgetHeld t)

/-! ## Loads that change their state -/

theorem enterIdle_onlyLowers (l : Load) (s : State) : OnlyLowers s (enterIdle l s) := .setLoad nofun

theorem enterDescending_onlyLowers (l : Load) (a : After) (s : State) : OnlyLowers s (enterDescending l a s) := .setLoad nofun

theorem descendInOrder_onlyLowers (l : Load) (a : After) (s : State) : OnlyLowers s (descendInOrder l a s) :=
  (enterDescending_onlyLowers l a s).trans (.of_account rfl)

theorem withdraw_onlyLowers (l : Load) {st : LoadState} (h : st.standing = false) (s : State) :
    OnlyLowers s (withdraw l st s) :=
  (OnlyLowers.setLoad (r := (s.load l).withdrawn st) fun hst => absurd hst (by simp [LoadRun.withdrawn, h])).trans
    (.of_account rfl)

theorem enqueue_onlyLowers (o : Origin) (l : Load) (s : State) : OnlyLowers s (enqueue o l s) :=
  (OnlyLowers.setLoad (r := { s.load l with state := .queued }) nofun).trans (.of_account rfl)

theorem select_onlyLowers (s : State) : OnlyLowers s (select s) := by
  unfold select
  split
  · exact .of_account rfl
  · exact (descendInOrder_onlyLowers _ .idle s).trans (.of_account rfl)

theorem selectIfSeeking_onlyLowers (s : State) : OnlyLowers s (selectIfSeeking s) := by
  unfold selectIfSeeking
  split
  · exact select_onlyLowers s
  · exact .refl s

/-! ## Requests and releases -/

theorem judge_onlyLowers (o : Origin) (l : Load) (s : State) : OnlyLowers s (judge o l s).2 := by
  unfold judge
  split
  · exact .refl s
  · split
    next =>
      split
      · exact .refl s
      · split
        · exact .refl s
        · exact enqueue_onlyLowers o l s
    case h_5 hdraining =>
      exact (OnlyLowers.setLoad fun _ => by rw [hdraining]; rfl).trans (.of_account rfl)
    case h_6 => exact .setLoad nofun
    all_goals exact .refl s

theorem request_budgetHeld (o : Origin) (l : Load) (s : State) : BudgetHeld s (request o l s).2 := by
  have hj : BudgetHeld s (judge o l s).2 := .lowered (judge_onlyLowers o l s)
  simp only [request]
  split
  · exact hj.grantPass
  · exact hj.grantPass.trans (.lowered (selectIfSeeking_onlyLowers _))
  · exact hj

theorem drainDescendant_onlyLowers (s : State) (x : Load) : OnlyLowers s (drainDescendant s x) := by
  unfold drainDescendant
  split
  case h_1 | h_2 | h_3 => exact descendInOrder_onlyLowers x _ s
  all_goals exact .refl s

theorem recordToDrain_account (l : Load) (s : State) : (recordToDrain l s).account = s.account := by
  obtain ⟨ps, rs, h⟩ := recordToDrain_changes l s
  rw [h]
  rfl

theorem beginDrain_onlyLowers {l : Load} {s : State} (h : (s.load l).state = .up) : OnlyLowers s (beginDrain l s) :=
  ((OnlyLowers.setLoad (r := { s.load l with state := .draining }) fun _ => by rw [h]; rfl).trans
    (.foldl drainDescendant_onlyLowers _ _)).trans (.of_account (recordToDrain_account l _))

theorem releaseByState_budgetHeld (l : Load) (s : State) : BudgetHeld s (releaseByState l s).2 := by
  unfold releaseByState
  split
  case h_4 =>
    have hidle := enterIdle_onlyLowers l { s with queue := s.queue.filter fun e => e.load != l }
    exact (BudgetHeld.lowered hidle).grantPass.after_account rfl
  case h_5 => exact .lowered (descendInOrder_onlyLowers l .idle s)
  case h_6 hup =>
    dsimp only
    split
    · exact .lowered (descendInOrder_onlyLowers l .idle s)
    · exact .lowered (beginDrain_onlyLowers hup)
  case h_7 | h_8 => exact .lowered (.setLoad nofun)
  case h_9 => exact .lowered (enterIdle_onlyLowers l s)
  all_goals exact .refl s

theorem releaseLoad_budgetHeld (l : Load) (s : State) : BudgetHeld s (releaseLoad l s).2 :=
  (releaseByState_budgetHeld l { s with resume := s.resume.filter (· != l) }).after_account rfl

/-! ## Trips and shedding -/

theorem tripDescendant_onlyLowers (s : State) (x : Load) : OnlyLowers s (tripDescendant s x) := by
  unfold tripDescendant
  dsimp only
  split
  case h_1 | h_2 | h_3 => exact (enterDescending_onlyLowers x _ s).trans (.of_account rfl)
  all_goals exact .of_account rfl

/-- After the tripped load itself has left, its descendants' part lets nothing stand again. -/
theorem enterDescending_trip_onlyLowers (l : Load) (a : After) (s : State) :
    OnlyLowers (enterDescending l a s) (trip l a s) :=
  (OnlyLowers.foldl tripDescendant_onlyLowers (s.holdingDescendants l)
    ((enterDescending l a s).post (.tripOrder l))).after_account rfl

theorem trip_onlyLowers (l : Load) (a : After) (s : State) : OnlyLowers s (trip l a s) :=
  (enterDescending_onlyLowers l a s).trans (enterDescending_trip_onlyLowers l a s)

theorem trip_not_standing (l : Load) (a : After) (s : State) : ((trip l a s).load l).state.standing = false := by
  rw [Bool.eq_false_iff]
  intro hst
  simpa [enterDescending_eq, LoadState.standing] using (enterDescending_trip_onlyLowers l a s).standing_before l hst

theorem shed_onlyLowers (v : Load) (s : State) : OnlyLowers s (shed v s) :=
  (trip_onlyLowers v _ _).after_account (account_handOver s _)

/-- The loads that stand. -/
def standingLoads (s : State) : Finset Load := Finset.univ.filter fun l => (s.load l).state.standing = true

theorem mem_standingLoads {s : State} {l : Load} : l ∈ standingLoads s ↔ (s.load l).state.standing = true := by
  simp [standingLoads]

theorem standingLoads_card_le (s : State) : (standingLoads s).card ≤ 12 := (Finset.card_filter_le _ _).trans_eq (by simp)

/-- Each victim that is shed stood, and stands no longer. -/
theorem shed_standingLoads_card_lt {v : Load} {s : State} (h : (s.load v).state.standing = true) :
    (standingLoads (shed v s)).card < (standingLoads s).card := by
  refine Finset.card_lt_card (Finset.ssubset_iff_of_subset (fun l hl => ?_) |>.mpr ⟨v, mem_standingLoads.mpr h, ?_⟩)
  · exact mem_standingLoads.mpr ((shed_onlyLowers v s).standing_before l (mem_standingLoads.mp hl))
  · simp [mem_standingLoads, shed, trip_not_standing]

theorem lowestYoungest_eq_none {p : Load → Fin 8} {ls : List Load} (h : lowestYoungest p ls = none) : ls = [] := by
  cases ls with
  | nil => rfl
  | cons l ls =>
    unfold lowestYoungest at h
    split at h
    · cases h
    · split at h <;> cases h

/-- A victim stands (R103). -/
theorem standing_of_victim {s : State} {v : Load} (h : s.victim = some v) : (s.load v).state.standing = true := by
  obtain ⟨k, hk, rfl⟩ := List.mem_map.mp (lowestYoungest_mem h)
  exact (List.mem_filter.mp hk).2

/-- Without a victim nothing stands. -/
theorem standingFits_of_no_victim {s : State} (h : s.victim = none) : s.standingFits := by
  have hnil : s.standingHolders = [] := List.map_eq_nil_iff.mp (lowestYoungest_eq_none h)
  simp [State.standingFits, State.standingSum, hnil, amounts]

/-- Shedding goes on until the standing sum fits, which it does at the latest when nothing stands any more (R103). -/
theorem shedDown_standingFits {fuel : Nat} {s : State} (hfuel : (standingLoads s).card ≤ fuel) :
    (shedDown fuel s).standingFits := by
  induction fuel generalizing s with
  | zero =>
    have hempty : standingLoads s = ∅ := Finset.card_eq_zero.mp (Nat.le_zero.mp hfuel)
    refine standingFits_of_none_standing fun l => Bool.eq_false_iff.mpr fun hl => ?_
    exact absurd (mem_standingLoads.mpr hl) (hempty ▸ Finset.notMem_empty l)
  | succ fuel ih =>
    unfold shedDown
    split
    next hfits => exact hfits
    next =>
      split
      next hnone => exact standingFits_of_no_victim hnone
      next v hv =>
        have hlt := shed_standingLoads_card_lt (standing_of_victim hv)
        exact ih (by omega)

/-- The ceiling falls and shedding follows, or it rises over what stood within it already (R8, R101). -/
theorem recomputeCeiling_standingFits {s : State} (h : s.standingFits) : (recomputeCeiling s).standingFits := by
  unfold recomputeCeiling
  dsimp only
  split
  · exact h
  next hne =>
    split
    · exact standingFits_of_account (account_noteMode _ _) (shedDown_standingFits (standingLoads_card_le _))
    next hnlt =>
      have hraised : ({ s with ceiling := s.ceilingNow } : State).standingFits :=
        Nat.le_trans h (show s.ceiling ≤ s.ceilingNow by omega)
      exact (BudgetHeld.of_account (account_noteMode _ _)).grantPass.standingFits hraised

/-! ## HALT -/

theorem LoadRun.halted_not_standing (r : LoadRun) : r.halted.state.standing = false := by
  obtain ⟨st, _, _, _⟩ := r
  cases st <;> rfl

theorem halt_standingFits {s : State} (h : s.standingFits) : (halt s).standingFits := by
  unfold halt
  dsimp only
  split
  · exact h
  · have hload (l : Load) : (Vector.ofFn fun l => (s.load l).halted)[l] = (s.load l).halted := Vector.getElem_ofFn _
    have hnone (l : Load) : ((Vector.ofFn fun l => (s.load l).halted)[l]).state.standing = false :=
      hload l ▸ LoadRun.halted_not_standing (s.load l)
    split
    · exact standingFits_of_none_standing hnone
    · exact standingFits_of_account (account_handOver _ _) (standingFits_of_none_standing hnone)

end Sys2Proof.Machine
end

section
/-! The events of the units keep the budget: channels, detect unit and load sequencer leave the account alone, and the arbiter's
events lower loads or run a grant pass. -/

namespace Sys2Proof.Machine

/-! ## Channels and presence -/

@[simp] theorem account_channelFault (c : Chan) (cause : FaultCause) (s : State) : (channelFault c cause s).account = s.account := by
  rw [channelFault_eq]; rfl
@[simp] theorem account_enterOn (c : Chan) (s : State) : (enterOn c s).account = s.account := rfl
@[simp] theorem account_beginFall (c : Chan) (s : State) : (beginFall c s).account = s.account := rfl
@[simp] theorem account_endFall (c : Chan) (s : State) : (endFall c s).account = s.account := rfl
@[simp] theorem account_setPg (c : Chan) (high : Bool) (s : State) : (setPg c high s).account = s.account := rfl
@[simp] theorem account_setFlt (c : Chan) (asserted : Bool) (s : State) : (setFlt c asserted s).account = s.account := rfl

@[simp] theorem account_noteStray (c : Chan) (s : State) : (noteStray c s).account = s.account := by
  obtain ⟨_, _, h⟩ := noteStray_changes c s
  rw [h]; rfl

@[simp] theorem account_settlePresence (c : Chan) (s : State) : (settlePresence c s).account = s.account := by
  obtain ⟨_, _, _, _, h⟩ := settlePresence_changes c s
  rw [h]; rfl

@[simp] theorem account_debounce (c : Chan) (s : State) : (debounce c s).account = s.account := by
  obtain ⟨_, _, _, _, h⟩ := debounce_changes c s
  rw [h]; rfl

@[simp] theorem account_represent (x : DetectSource) (s : State) (c : Chan) : (represent x s c).account = s.account := by
  obtain ⟨_, _, h⟩ := represent_changes x s c
  rw [h]; rfl

@[simp] theorem account_representLoad (l : Load) (s : State) : (representLoad l s).account = s.account := by
  obtain ⟨_, _, h⟩ := representLoad_changes l s
  rw [h]; rfl

/-- What each of several changes leaves alone, all of them leave alone. -/
theorem account_foldl {α : Type} {f : State → α → State} (hf : ∀ s x, (f s x).account = s.account) (xs : List α) (s : State) :
    (xs.foldl f s).account = s.account := by
  induction xs generalizing s with
  | nil => rfl
  | cons x xs ih => exact (ih (f s x)).trans (hf s x)

theorem account_channelStart (c : Chan) (s : State) : (channelStart c s).account = s.account := by
  unfold channelStart
  dsimp only
  split
  case h_1 | h_2 =>
    split
    · simp
    · split <;> simp
  all_goals rfl

theorem account_channelWait (c : Chan) (s : State) : (channelWait c s).account = s.account := by
  unfold channelWait
  split <;> simp

theorem account_channelFall (c : Chan) (s : State) : (channelFall c s).account = s.account := by
  unfold channelFall
  split <;> simp

theorem account_channelCancel (c : Chan) (s : State) : (channelCancel c s).account = s.account := by
  unfold channelCancel
  split <;> simp

theorem account_channelPgRise (c : Chan) (s : State) : (channelPgRise c s).account = s.account := by
  unfold channelPgRise
  dsimp only
  split
  · rfl
  · split <;> simp

theorem account_channelPgFall (c : Chan) (s : State) : (channelPgFall c s).account = s.account := by
  unfold channelPgFall
  dsimp only
  split
  · rfl
  · split
    case h_2 => split <;> simp
    all_goals simp

theorem account_channelFltAsserted (c : Chan) (s : State) : (channelFltAsserted c s).account = s.account := by
  unfold channelFltAsserted
  dsimp only
  split
  · rfl
  · split <;> simp

theorem account_channelFltDeasserted (c : Chan) (s : State) : (channelFltDeasserted c s).account = s.account := by
  unfold channelFltDeasserted
  split <;> simp

theorem account_channelRampExpiry (c : Chan) (s : State) : (channelRampExpiry c s).account = s.account := by
  unfold channelRampExpiry
  split <;> simp

theorem account_channelDischargeExpiry (c : Chan) (s : State) : (channelDischargeExpiry c s).account = s.account := by
  unfold channelDischargeExpiry
  split
  · split <;> simp
  · rfl

theorem account_channelDeclareOff (c : Chan) (s : State) : (channelDeclareOff c s).2.account = s.account := by
  unfold channelDeclareOff
  split <;> simp

theorem account_takeDetFilter (c : Chan) (high : Bool) (s : State) : (takeDetFilter c high s).account = s.account := by
  unfold takeDetFilter
  split <;> simp

theorem account_takeDebounceExpiry (c : Chan) (s : State) : (takeDebounceExpiry c s).account = s.account := by
  unfold takeDebounceExpiry
  split <;> simp

/-! ## The load sequencer -/

theorem account_takeGrant (l : Load) (s : State) : (takeGrant l s).account = s.account := by
  unfold takeGrant
  dsimp only
  split <;> simp

@[simp] theorem account_startNext (l : Load) (r : SeqRecord) (s : State) : (startNext l r s).account = s.account := by
  unfold startNext
  split <;> simp

theorem account_takeChannelOn (c : Chan) (s : State) : (takeChannelOn c s).account = s.account := by
  unfold takeChannelOn
  dsimp only
  split
  · rfl
  · split
    · split
      · simp
      · split
        · simp
        · split <;> simp
    · rfl

theorem account_takeStaggerExpiry (l : Load) (s : State) : (takeStaggerExpiry l s).account = s.account := by
  unfold takeStaggerExpiry
  split
  · rfl
  · split
    · dsimp only
      split <;> simp
    · rfl

@[simp] theorem account_lowerNext (l : Load) (r : SeqRecord) (s : State) : (lowerNext l r s).account = s.account := by
  unfold lowerNext
  dsimp only
  split <;> simp

theorem account_takeFallComplete (c : Chan) (s : State) : (takeFallComplete c s).account = s.account := by
  unfold takeFallComplete
  dsimp only
  split
  · rfl
  · split
    case h_5 => split <;> simp
    case h_6 => split <;> simp
    all_goals simp

theorem account_takeOrderlyOrder (l : Load) (s : State) : (takeOrderlyOrder l s).account = s.account := by
  unfold takeOrderlyOrder
  split
  · rfl
  · dsimp only
    split <;> simp

theorem account_takeTripOrder (l : Load) (s : State) : (takeTripOrder l s).account = s.account := by
  unfold takeTripOrder
  split
  · rfl
  · split
    · rfl
    · dsimp only
      split
      · simp
      · split <;> simp

theorem account_examineRecord (s : State) (l : Load) : (examineRecord s l).account = s.account := by
  unfold examineRecord
  split
  · rfl
  · split
    · rfl
    · split
      case h_1 => split <;> simp
      all_goals simp

theorem account_takeReturn (l : Load) (s : State) : (takeReturn l s).account = s.account :=
  account_foldl account_examineRecord allLoads (s.setRecord l none)

theorem account_takeCancelDrain (l : Load) (s : State) : (takeCancelDrain l s).account = s.account := by
  unfold takeCancelDrain
  split
  · rfl
  · split <;> simp

/-! ## The arbiter -/

theorem takeLoadUp_budgetHeld (l : Load) (s : State) : BudgetHeld s (takeLoadUp l s) := by
  unfold takeLoadUp
  split
  case h_1 hrising =>
    have hup : OnlyLowers s (s.setLoad l { s.load l with
        state := .up
        stable := .running ((s.loadConfig l).stableTime.toNat * 100) }) := .setLoad fun _ => by rw [hrising]; rfl
    exact ((BudgetHeld.lowered hup).then_account (account_handOver _ _)).grantPass
  all_goals exact .refl s

theorem settleLoad_onlyLowers (l : Load) (next : DownState) (s : State) : OnlyLowers s (settleLoad l next s) := by
  cases next with
  | idle => exact enterIdle_onlyLowers l s
  | queued => exact enqueue_onlyLowers .requeue l s
  | cooling | locked => exact .setLoad nofun

theorem continueDescent_onlyLowers (l : Load) (s : State) : OnlyLowers s (continueDescent l s) := by
  unfold continueDescent
  split
  case h_1 =>
    split
    · split
      · exact select_onlyLowers s
      · exact .of_account rfl
    · exact .refl s
  case h_2 => exact select_onlyLowers s
  all_goals exact .refl s

/-- A holder leaves the list. -/
theorem removeHolder_onlyLowers (l : Load) (s : State) :
    OnlyLowers s { s with holders := s.holders.filter fun h => h.load != l } :=
  ⟨rfl, rfl, List.filter_sublist, fun _ h => h⟩

/-- The load leaves the holder list and enters the state its descent leads to (R18, R19). -/
theorem settleLoad_without_holder_onlyLowers {l : Load} {s t : State}
    (h : t.account = ({ s with holders := s.holders.filter fun h => h.load != l } : State).account) (next : DownState) :
    OnlyLowers s (settleLoad l next t) :=
  (removeHolder_onlyLowers l s).trans ((settleLoad_onlyLowers l next t).after_account h)

theorem takeDescentEnded_budgetHeld (l : Load) (s : State) : BudgetHeld s (takeDescentEnded l s) := by
  unfold takeDescentEnded
  split
  case h_1 =>
    have hpassed {t : State} {next : DownState} (h : OnlyLowers s (settleLoad l next t)) :
        BudgetHeld s (grantPass (noteMode s.mode (settleLoad l next t))) :=
      ((BudgetHeld.lowered h).then_account (account_noteMode _ _)).grantPass
    exact (hpassed (settleLoad_without_holder_onlyLowers (by simp) _)).trans (.lowered (continueDescent_onlyLowers l _))
  all_goals exact .refl s

theorem takeDrainEnded_onlyLowers (l : Load) (s : State) : OnlyLowers s (takeDrainEnded l s) := by
  unfold takeDrainEnded
  split
  case h_1 => exact descendInOrder_onlyLowers l .idle s
  all_goals exact .refl s

theorem takeFaultReport_onlyLowers (c : Chan) (s : State) : OnlyLowers s (takeFaultReport c s) := by
  unfold takeFaultReport
  dsimp only
  split
  · exact trip_onlyLowers _ _ s
  · exact .refl s

theorem takeCoolDownExpiry_budgetHeld (l : Load) (s : State) : BudgetHeld s (takeCoolDownExpiry l s) := by
  unfold takeCoolDownExpiry
  split
  case h_1 =>
    have hstopped : OnlyLowers s (s.setLoad l { s.load l with cooling := .stopped }) := .setLoad id
    exact (BudgetHeld.lowered (hstopped.trans (enqueue_onlyLowers .retry l _))).grantPass
  case h_2 => exact .refl s

theorem takeStableExpiry_onlyLowers (l : Load) (s : State) : OnlyLowers s (takeStableExpiry l s) := by
  unfold takeStableExpiry
  split
  · exact .setLoad id
  · exact .refl s

theorem takeRequest_budgetHeld (o : Origin) (l : Load) (s : State) : BudgetHeld s (noteRefusal l (request o l s)) :=
  (request_budgetHeld o l s).then_account (account_noteRefusal l _)

/-! ## Events in the order sent -/

/-- Every event of the units keeps the budget at its receiver. -/
theorem deliver_budgetHeld (i : Instr) (s : State) : BudgetHeld s (deliver i s) := by
  cases i with
  | startRamp c => exact .of_account (account_channelStart c s)
  | waitTurn c => exact .of_account (account_channelWait c s)
  | fall c => exact .of_account (account_channelFall c s)
  | cancelTurn c => exact .of_account (account_channelCancel c s)
  | grantHandover l => exact .of_account (account_takeGrant l s)
  | orderlyDescentOrder l => exact .of_account (account_takeOrderlyOrder l s)
  | tripOrder l => exact .of_account (account_takeTripOrder l s)
  | returnReport l => exact .of_account (account_takeReturn l s)
  | cancelDrain l => exact .of_account (account_takeCancelDrain l s)
  | channelOn c => exact .of_account (account_takeChannelOn c s)
  | fallComplete c => exact .of_account (account_takeFallComplete c s)
  | loadUp l => exact takeLoadUp_budgetHeld l s
  | descentEnded l => exact takeDescentEnded_budgetHeld l s
  | drainEnded l => exact .lowered (takeDrainEnded_onlyLowers l s)
  | faultReport c _ => exact .lowered (takeFaultReport_onlyLowers c s)
  | autoRequest l => exact takeRequest_budgetHeld .auto l s
  | autoRelease l => exact releaseLoad_budgetHeld l s
  | bootRequest l => exact takeRequest_budgetHeld .boot l s
  | _ => exact .refl s

theorem serve_budgetHeld (s : State) (i : Instr) : BudgetHeld s (serve s i) :=
  (deliver_budgetHeld i (s.consume i)).after_account (account_consume s i)

theorem takeInOrder_budgetHeld {i : Instr} {s t : State} (h : takeInOrder i s = .next t) : BudgetHeld s t :=
  takeInOrder_keeps (P := BudgetHeld s) (fun hs => hs.then_account (account_post s i))
    (fun hs => hs.then_account (account_consume s i)) (fun j u _ hu => hu.trans (serve_budgetHeld u j)) h (.refl s)

theorem settleFor_budgetHeld (p : Instr → DetectSource → Bool) (s : State) : BudgetHeld s (settleFor p s) :=
  settleFor_keeps (P := BudgetHeld s) (fun j u _ hu => hu.trans (serve_budgetHeld u j)) (.refl s)

/-! ## Standby and wake -/

theorem takeStandby_onlyLowers (s : State) : OnlyLowers s (takeStandby s) := by
  unfold takeStandby
  dsimp only
  split
  · exact .refl s
  · have hnoted : (noteMode s.mode (setStby true s)).account = s.account := account_noteMode _ _
    split
    · exact .of_account hnoted
    · exact (select_onlyLowers _).after_account hnoted

theorem replayLoad_onlyLowers (s : State) (l : Load) : OnlyLowers s (replayLoad s l) :=
  (judge_onlyLowers .wake l s).trans (.of_account (account_noteRefusal l _))

theorem takeWake_budgetHeld (s : State) : BudgetHeld s (takeWake s) := by
  unfold takeWake
  dsimp only
  split
  · exact .refl s
  · have hnoted : ({ noteMode s.mode (setStby false s) with descent := .inactive } : State).account = s.account :=
      account_noteMode (setStby false s) s.mode
    generalize ({ noteMode s.mode (setStby false s) with descent := .inactive } : State) = t at hnoted ⊢
    have hreplayed := (OnlyLowers.foldl replayLoad_onlyLowers s.resume.reverse t).after_account hnoted
    exact (BudgetHeld.lowered hreplayed).trans ((grantPass_budgetHeld _).after_account rfl)

theorem takeSpacingExpiry_onlyLowers (s : State) : OnlyLowers s (takeSpacingExpiry s) := by
  unfold takeSpacingExpiry
  split
  · exact select_onlyLowers s
  all_goals exact .refl s

end Sys2Proof.Machine
end

section
/-! Every command keeps the standing sum within the ceiling (R102). -/

namespace Sys2Proof.Machine

/-- A change of the state that keeps the standing sum within the ceiling. -/
def KeepsFits (act : State → State) : Prop := ∀ s : State, s.standingFits → (act s).standingFits

namespace KeepsFits

theorem of_budgetHeld {act : State → State} (h : ∀ s, BudgetHeld s (act s)) : KeepsFits act := fun s => (h s).standingFits

theorem of_onlyLowers {act : State → State} (h : ∀ s, OnlyLowers s (act s)) : KeepsFits act := fun s => (h s).standingFits

theorem of_account {act : State → State} (h : ∀ s, (act s).account = s.account) : KeepsFits act := fun s =>
  standingFits_of_account (h s)

/-! ## The forms of a command -/

theorem takeEvent {i : Instr} {act : State → State} {s t : State} (h : takeEvent i act s = .next t) (ha : KeepsFits act)
    (hs : s.standingFits) : t.standingFits := by
  have hc : (s.consume i).standingFits := hs
  cases hr : s.running with
  | true =>
    rw [takeEvent_of_running hr] at h
    cases h
    exact ha _ hc
  | false =>
    rw [takeEvent_of_not_running hr] at h
    cases h
    exact hc

theorem strobe {act : State → State} {s t : State} (h : strobe act s = .next t) (ha : KeepsFits act)
    (hs : s.standingFits) : t.standingFits := by
  cases h
  split
  · exact ha s hs
  · exact hs

theorem writeCmd {act : State → State} (code : Byte) (ha : KeepsFits act) : KeepsFits (writeCmd code act) := by
  intro s hs
  by_cases hu : s.unit = .ready
  · rw [writeCmd_of_ready hu]
    exact ha _ hs
  · rw [writeCmd_of_busy hu]
    exact hs

theorem immediate {code : Byte} {owner : State → ResultCode × State} {s t : State} (h : immediate code owner s = .next t)
    (ha : KeepsFits fun s => (owner s).2) (hs : s.standingFits) : t.standingFits :=
  strobe h (writeCmd code fun u hu => standingFits_of_account (account_complete (owner u)) (ha u hu)) hs

theorem longCommand {code : Byte} {start : State → ResultCode ⊕ LongOp} {s t : State}
    (h : longCommand code start s = .next t) (hs : s.standingFits) : t.standingFits := by
  refine strobe h (writeCmd code (of_account fun u => ?_)) hs
  split <;> rfl

/-- A command on the load of ARG0 keeps what it keeps on every load; BAD_TARGET changes nothing (R149). -/
theorem onLoad {act : Load → State → ResultCode × State} (ha : ∀ l, KeepsFits fun s => (act l s).2) :
    KeepsFits fun s => (onLoad act s).2 := by
  intro s hs
  dsimp only
  unfold Machine.onLoad
  split
  next l _ => exact ha l s hs
  next => exact hs

end KeepsFits

/-! ## The mailbox -/

theorem account_clearFaults (cs : List Chan) (s : State) : (clearFaults cs s).account = s.account :=
  account_foldl (fun t c => account_setChan t c _) cs s

theorem clearLoad_budgetHeld (l : Load) (s : State) : BudgetHeld s (clearLoad l s).2 := by
  unfold clearLoad
  split
  case h_1 =>
    have hidle (t : State) : BudgetHeld t (representLoad l (clearFaults (t.config.channelsOf l) (enterIdle l t))) :=
      (BudgetHeld.lowered (enterIdle_onlyLowers l t)).then_account
        ((account_representLoad l _).trans (account_clearFaults _ _))
    exact (settleFor_budgetHeld _ s).trans (hidle _)
  all_goals exact .refl s

theorem account_declareOff (s : State) : (declareOff s).2.account = s.account := by
  unfold declareOff
  split
  · exact account_channelDeclareOff _ s
  · rfl

theorem keepsFits_setBudget : KeepsFits fun s => (setBudget s).2 := by
  intro s hs
  dsimp only
  unfold setBudget
  split
  · exact hs
  · exact recomputeCeiling_standingFits
      (s := { s with config := { s.config with full := argFull s, reduced := argReduced s } }) hs

theorem setOvertake_budgetHeld (s : State) : BudgetHeld s (setOvertake s).2 := by
  unfold setOvertake
  split
  · exact .refl s
  · exact (grantPass_budgetHeld { s with config := { s.config with overtake := s.argCopy[0].toNat } }).after_account rfl

/-- The end of a halt: MODE, the selection of a part in standby, the pass and the re-presentations (R128, R139). -/
theorem keepsFits_resumeService : KeepsFits fun s => (resumeService s).2 := by
  intro s hs
  dsimp only
  unfold resumeService
  split
  · dsimp only
    have hsettled : (settleFor resumeWaits s).standingFits := (settleFor_budgetHeld resumeWaits s).standingFits hs
    generalize settleFor resumeWaits s = u at hsettled
    have hnoted : (noteMode u.mode { u with halted := false }).standingFits :=
      standingFits_of_account (account_noteMode _ _) (s := { u with halted := false }) hsettled
    refine standingFits_of_account (account_foldl (account_represent .resume) _ _) ?_
    refine (grantPass_budgetHeld _).standingFits ?_
    split
    · exact (select_onlyLowers _).standingFits hnoted
    · exact hnoted
  · exact hs

theorem keepsFits_takeLowsup (asserted : Bool) : KeepsFits (takeLowsup asserted) := by
  intro s hs
  unfold takeLowsup
  split
  · exact recomputeCeiling_standingFits (s := { s with lowsup := s.lowsup.took asserted }) hs
  · exact hs

/-! ## The profile store, the resets and the boot load -/

theorem account_setSlot (s : State) (id : SlotId) (x : Slot) : (s.setSlot id x).account = s.account := by
  cases id <;> rfl

theorem account_showSlots (s : State) : (showSlots s).account = s.account := rfl

/-- The completion of a long command, with the slot bytes brought up to date (R146, R187). -/
theorem account_completeLong_showSlots (r : ResultCode) (s : State) :
    (completeLong r (showSlots s)).account = s.account := account_showSlots s

theorem account_endSave (matched : Bool) (s : State) : (endSave matched s).account = s.account := by
  unfold endSave
  split
  case h_1 target _ _ =>
    dsimp only
    have hslot (x : Slot) : (s.setSlot target x).account = s.account := account_setSlot s target x
    split
    · exact (account_completeLong_showSlots _ _).trans (hslot _)
    · exact (account_completeLong_showSlots _ _).trans (hslot _)
  all_goals rfl

theorem account_endErase (s : State) : (endErase s).account = s.account := by
  unfold endErase
  split
  case h_1 => exact account_completeLong_showSlots .done _
  all_goals rfl

theorem reloadConfig_holders (s : State) : (reloadConfig s).holders = s.holders := rfl

/-- The end of a REVERT finds no holder, and nothing that it takes before grants one while the arbiter is HALTED (R157, R195). -/
theorem endRevert_standingFits {s : State} (hrevert : s.revertSound) (hs : s.standingFits) : (endRevert s).standingFits := by
  have hended (u : State) (cs : List Chan) (hu : u.holders = []) :
      (cs.foldl (represent .revert) (completeLong .done (showSlots (reloadConfig u)))).standingFits :=
    standingFits_of_account (account_foldl (account_represent .revert) cs _)
      (standingFits_of_account (account_completeLong_showSlots _ _)
        (standingFits_of_holders_nil ((reloadConfig_holders u).trans hu)))
  unfold endRevert
  split
  case h_1 hunit =>
    obtain ⟨hhalted, hnil⟩ := hrevert hunit
    have hsettled (p q : Instr → DetectSource → Bool) : (settleFor q (settleFor p s)).holders = [] :=
      (((settleFor_budgetHeld p s).trans (settleFor_budgetHeld q _)).holders_nil hhalted hnil).2
    exact hended _ _ (hsettled _ _)
  all_goals exact hs

theorem execRevertCompletion_standingFits {s t : State} (hrevert : s.revertSound) (hs : s.standingFits)
    (h : execRevertCompletion s = .next t) : t.standingFits := by
  cases hr : s.running with
  | true =>
    rw [execRevertCompletion, takeEvent_of_running hr] at h
    cases h
    exact endRevert_standingFits hrevert hs
  | false =>
    rw [execRevertCompletion, takeEvent_of_not_running hr] at h
    cases h
    exact hs

theorem resetState_standingFits (phase : PowerPhase) (s : State) : (resetState phase s).standingFits :=
  standingFits_of_holders_nil rfl

theorem startLoad_not_standing (img : Image) (l : Load) : (startLoad img l).state.standing = false := by
  unfold startLoad
  split
  · rfl
  · simp only [LoadRun.withdrawn]
    split <;> rfl

/-- The boot load ends with every load IDLE, ABSORBED or VOID (R21). -/
theorem bootArbiter_standingFits (s : State) : (bootArbiter s).standingFits := by
  refine standingFits_of_none_standing fun l => ?_
  have hload : (bootArbiter s).load l = startLoad s.config l := Vector.getElem_ofFn _
  rw [hload]
  exact startLoad_not_standing s.config l

theorem account_bootDetect (s : State) : (bootDetect s).account = s.account :=
  account_foldl (fun t c => account_debounce c t) _ s

theorem endBoot_standingFits (s : State) : (endBoot s).standingFits := by
  have hready (t : State) (is : List Instr) : ({ t with unit := .ready }.postAll is).account = t.account := rfl
  exact standingFits_of_account ((hready _ _).trans (account_bootDetect _)) (bootArbiter_standingFits (bootStore s))

theorem execPinReset_standingFits {reached : StoreProgress} {s t : State} (h : execPinReset reached s = .next t)
    (hs : s.standingFits) : t.standingFits := by
  cases h
  split
  · exact resetState_standingFits _ _
  all_goals exact hs

theorem execResetRelease_standingFits {s t : State} (h : execResetRelease s = .next t) (hs : s.standingFits) :
    t.standingFits := by
  cases h
  split <;> exact hs

theorem execBootLoadEnd_standingFits {s t : State} (h : execBootLoadEnd s = .next t) (hs : s.standingFits) :
    t.standingFits := by
  cases h
  split
  · exact endBoot_standingFits s
  · exact hs

/-! ## The window and the clock -/

theorem keepsFits_writeControl (v : Byte) : KeepsFits (writeControl v) := by
  intro s hs
  unfold writeControl
  dsimp only
  split
  · exact halt_standingFits (s := { s with nie := v.getLsbD 0, die := v.getLsbD 1 }) hs
  · exact hs

theorem account_writePlain (r : Register) (v : Byte) (s : State) : (writePlain r v s).account = s.account := by
  cases r <;> rfl

theorem account_clearOverrun (v : Byte) (s : State) :
    (if v.getLsbD 4 then { s with overrun := false } else s).account = s.account := by
  split <;> rfl

theorem account_readNotice (s : State) : (readNotice s).account = s.account := by
  unfold readNotice
  dsimp only
  split
  · rfl
  · split <;> rfl

/-- A millisecond counts the timers of the loads and changes no load's state. -/
theorem tick_onlyLowers (s : State) : OnlyLowers s (tick s) := by
  refine ⟨rfl, rfl, List.Sublist.refl _, fun l hl => ?_⟩
  have hload : (tick s).load l = (s.load l).tick := Vector.getElem_ofFn _
  rw [hload] at hl
  exact hl

theorem execClockTick_standingFits {s t : State} (h : execClockTick s = .next t) (hs : s.standingFits) : t.standingFits := by
  cases h
  split
  · exact (tick_onlyLowers s).standingFits hs
  · exact hs

/-! ## Writes to the configuration space -/

theorem account_writeChan (c : Chan) (f : ChanField) (v : Byte) (s : State) : (writeChan c f v s).account = s.account := by
  cases f with
  | detect =>
    simp only [writeChan]
    split
    · exact account_represent .asked _ c
    · rfl
  | _ => rfl

theorem account_writeLoad (l : Load) (f : LoadField) (v : Byte) (s : State) : (writeLoad l f v s).account = s.account := by
  cases f <;> rfl

/-- A membership write sends loads to IDLE or ABSORBED alone (R5, R63). -/
theorem writeMember_onlyLowers (g : Group) (k : Slot8) (c : Chan) (s : State) : OnlyLowers s (writeMember g k c s) := by
  have hgroup (r : GroupConfig) : OnlyLowers s (setGroupConfig g r s) := .of_account rfl
  have hold (m : Option Chan) (t : State) :
      OnlyLowers t (match m with | some old => enterIdle (ownLoad old) t | none => t) := by
    cases m with
    | some old => exact enterIdle_onlyLowers _ t
    | none => exact .refl t
  have hvoid (t : State) :
      OnlyLowers t (if (t.load (groupLoad g)).state = .void then enterIdle (groupLoad g) t else t) := by
    split
    · exact enterIdle_onlyLowers _ t
    · exact .refl t
  have hlead (t : State) : OnlyLowers t (if k.val = 0 then represent .asked t c else t) := by
    split
    · exact .of_account (account_represent .asked t c)
    · exact .refl t
  unfold writeMember
  dsimp only
  split
  · exact .refl s
  · exact ((((hgroup _).trans (hold _ _)).trans (withdraw_onlyLowers _ rfl _)).trans (hvoid _)).trans (hlead _)

/-- A truncation sends loads to IDLE or VOID alone (R5, R64). -/
theorem truncateMembers_onlyLowers (g : Group) (k : Slot8) (s : State) : OnlyLowers s (truncateMembers g k s) := by
  have hidle (cs : List Chan) (r : GroupConfig) :
      OnlyLowers s (cs.foldl (fun u c => enterIdle (ownLoad c) u) (setGroupConfig g r s)) :=
    (OnlyLowers.foldl (fun u c => enterIdle_onlyLowers (ownLoad c) u) cs _).after_account rfl
  unfold truncateMembers
  dsimp only
  split
  · exact .refl s
  · split
    · exact (hidle _ _).trans (withdraw_onlyLowers _ rfl _)
    · exact hidle _ _

theorem applyWrite_onlyLowers (loc : Location) (v : Byte) (s : State) : OnlyLowers s (applyWrite loc v s) := by
  cases loc with
  | chan c f => exact .of_account (account_writeChan c f v s)
  | load l f => exact .of_account (account_writeLoad l f v s)
  | slot g k =>
    simp only [applyWrite]
    split
    · exact writeMember_onlyLowers g k _ s
    · exact truncateMembers_onlyLowers g k s
  | wrej =>
    simp only [applyWrite]
    split <;> exact .of_account rfl
  | _ => exact .of_account rfl

theorem settleForWrite_budgetHeld (v : Byte) (s : State) : BudgetHeld s (settleForWrite v s) := by
  unfold settleForWrite
  dsimp only
  split
  · exact settleFor_budgetHeld _ s
  · exact .refl s

theorem account_advanceIndex (s : State) : (advanceIndex s).account = s.account := rfl

theorem account_refuseWrite (reason : Reason) (s : State) : (refuseWrite reason s).account = s.account := rfl

theorem writeData_budgetHeld (v : Byte) (s : State) : BudgetHeld s (writeData v s) := by
  unfold writeData
  refine (settleForWrite_budgetHeld v s).trans (BudgetHeld.then_account (.lowered ?_) (account_advanceIndex _))
  split
  · exact .of_account (account_refuseWrite _ _)
  · exact applyWrite_onlyLowers _ v _

/-! ## Every command -/

/-- R102: a command lets no more stand than the ceiling admits. Only the end of a REVERT, which sets the ceiling without shedding,
needs more of the state than that: it finds no holder. -/
theorem exec_standingFits {i : Instr} {s t : State} (hrevert : s.revertSound) (hs : s.standingFits) (h : exec i s = .next t) :
    t.standingFits := by
  cases i with
  | request => exact KeepsFits.immediate h (.onLoad fun l => .of_budgetHeld (request_budgetHeld .host l)) hs
  | release => exact KeepsFits.immediate h (.onLoad fun l => .of_budgetHeld (releaseLoad_budgetHeld l)) hs
  | clear => exact KeepsFits.immediate h (.onLoad fun l => .of_budgetHeld (clearLoad_budgetHeld l)) hs
  | declareOff => exact KeepsFits.immediate h (.of_account account_declareOff) hs
  | setBudget => exact KeepsFits.immediate h keepsFits_setBudget hs
  | setOvertake => exact KeepsFits.immediate h (.of_budgetHeld setOvertake_budgetHeld) hs
  | resume => exact KeepsFits.immediate h keepsFits_resumeService hs
  | snapshot => exact KeepsFits.immediate h (.of_account fun _ => rfl) hs
  | unknown code => exact KeepsFits.immediate h (.of_account fun _ => rfl) hs
  | eraseProfiles => exact KeepsFits.longCommand (start := fun _ => .inr .erase) h hs
  | saveProfile | revert => exact KeepsFits.longCommand h hs
  | saveProfileCompletion matched => exact KeepsFits.takeEvent h (.of_account (account_endSave matched)) hs
  | eraseProfilesCompletion => exact KeepsFits.takeEvent h (.of_account account_endErase) hs
  | revertCompletion => exact execRevertCompletion_standingFits hrevert hs h
  | haltRequest v | nieDieWrite v => exact KeepsFits.strobe h (keepsFits_writeControl v) hs
  | statusOverrunClear v =>
    simp only [exec, execStatusOverrunClear] at h
    exact KeepsFits.strobe h (.of_account (account_clearOverrun v)) hs
  | registerWrite r v => exact KeepsFits.strobe h (.of_account (account_writePlain r v)) hs
  | resultRead | dataRead | noticeCursorWrite | clockLoRead =>
    simp only [exec, execResultRead, execDataRead, execNoticeCursorWrite, execClockLoRead] at h
    exact KeepsFits.strobe h (.of_account fun _ => rfl) hs
  | dataWrite v => exact KeepsFits.strobe h (.of_budgetHeld (writeData_budgetHeld v)) hs
  | noticeRead => exact KeepsFits.strobe h (.of_account account_readNotice) hs
  | clockTick => exact execClockTick_standingFits h hs
  | powerOnReset | powerLoss =>
    cases h
    exact resetState_standingFits _ _
  | pinReset => exact execPinReset_standingFits h hs
  | resetRelease => exact execResetRelease_standingFits h hs
  | bootLoadEnd => exact execBootLoadEnd_standingFits h hs
  | pgLineChange | fltNLineChange | detLineChange | stbyLineChange | lowsupLineChange =>
    cases h
    exact hs
  | pgRise c => exact KeepsFits.takeEvent h (.of_account (account_channelPgRise c)) hs
  | pgFall c => exact KeepsFits.takeEvent h (.of_account (account_channelPgFall c)) hs
  | fltNAsserted c => exact KeepsFits.takeEvent h (.of_account (account_channelFltAsserted c)) hs
  | fltNDeasserted c => exact KeepsFits.takeEvent h (.of_account (account_channelFltDeasserted c)) hs
  | rampTimerExpiry c => exact KeepsFits.takeEvent h (.of_account (account_channelRampExpiry c)) hs
  | dischargeTimerExpiry c => exact KeepsFits.takeEvent h (.of_account (account_channelDischargeExpiry c)) hs
  | staggerTimerExpiry l => exact KeepsFits.takeEvent h (.of_account (account_takeStaggerExpiry l)) hs
  | grantPass => exact KeepsFits.takeEvent h (.of_budgetHeld grantPass_budgetHeld) hs
  | coolDownExpiry l => exact KeepsFits.takeEvent h (.of_budgetHeld (takeCoolDownExpiry_budgetHeld l)) hs
  | stableTimerExpiry l => exact KeepsFits.takeEvent h (.of_onlyLowers (takeStableExpiry_onlyLowers l)) hs
  | lowsupFilterChange asserted => exact KeepsFits.takeEvent h (keepsFits_takeLowsup asserted) hs
  | standbyEvent => exact KeepsFits.takeEvent h (.of_onlyLowers takeStandby_onlyLowers) hs
  | wakeEvent => exact KeepsFits.takeEvent h (.of_budgetHeld takeWake_budgetHeld) hs
  | spacingTimerExpiry => exact KeepsFits.takeEvent h (.of_onlyLowers takeSpacingExpiry_onlyLowers) hs
  | detFilterChange c high => exact KeepsFits.takeEvent h (.of_account (account_takeDetFilter c high)) hs
  | debounceTimerExpiry c => exact KeepsFits.takeEvent h (.of_account (account_takeDebounceExpiry c)) hs
  | noticeHandover n => exact KeepsFits.takeEvent h (.of_account fun s => account_handOver s n) hs
  | startRamp | waitTurn | fall | cancelTurn | grantHandover | orderlyDescentOrder | tripOrder | returnReport | cancelDrain
  | channelOn | fallComplete | loadUp | descentEnded | drainEnded | faultReport | autoRequest | autoRelease | bootRequest =>
    exact (takeInOrder_budgetHeld h).standingFits hs

/-- Settles O5: a step is a command's effect, whether it waited or is the part's own event, or leaves the state as it is. -/
theorem everyStepKeepsStandingWithinCeiling : Obligations.EveryStepKeepsStandingWithinCeiling := by
  unfold Obligations.EveryStepKeepsStandingWithinCeiling
  intro s t haccount hs h
  obtain ⟨-, -, -, -, -, hrevert, -⟩ := haccount
  unfold step at h
  split at h
  next rest _ => exact exec_standingFits (s := { s with pending := rest }) hrevert hs h
  next =>
    split at h
    · exact exec_standingFits hrevert hs h
    · cases h
      exact hs

end Sys2Proof.Machine
end

section
/-! SET_OVERTAKE (R149, R154): the two answers of the arbiter to it, carried through the take and the completion that every
immediate command shares (R145, R146). -/

namespace Sys2Proof.Machine

theorem setOvertake_of_gt {s : State} (h : 15 < s.argCopy[0].toNat) : setOvertake s = (.range, s) :=
  if_pos h

theorem setOvertake_of_le {s : State} (h : s.argCopy[0].toNat ≤ 15) :
    setOvertake s = (.done, grantPass { s with config := { s.config with overtake := s.argCopy[0].toNat } }) :=
  if_neg (Nat.not_lt.mpr h)

theorem exec_setOvertake_of_takesCommands {s : State} (h : s.takesCommands) :
    exec .setOvertake s = .next ((setOvertake (s.taken 0x11)).2.completed (setOvertake (s.taken 0x11)).1) :=
  immediate_of_takesCommands h

/-- Settles O27: the argument copy that the arbiter reads is ARG0 at the take, and each side of the limit is one of its answers. -/
theorem setOvertakeReplacesTheLimit : Obligations.SetOvertakeReplacesTheLimit := by
  unfold Obligations.SetOvertakeReplacesTheLimit
  intro s hs
  have hcopy : (s.taken 0x11).argCopy = s.args := rfl
  constructor
  · intro habove
    rw [exec_setOvertake_of_takesCommands hs, setOvertake_of_gt (hcopy ▸ habove)]
  · intro hwithin
    rw [exec_setOvertake_of_takesCommands hs, setOvertake_of_le (hcopy ▸ hwithin)]
    rfl

end Sys2Proof.Machine
end

section
/-! The write of NOTICE (R165): a strobe that moves the read cursor and leaves the FIFO alone. -/

namespace Sys2Proof.Machine

/-- R165: the next state names no byte of the value written. -/
theorem exec_noticeCursorWrite_of_released (v : Byte) {s : State} (h : s.phase = .released) :
    exec (.noticeCursorWrite v) s = .next { s with cursor := 0 } :=
  strobe_of_released (act := fun t => { t with cursor := 0 }) h

/-- A state whose cursor already names byte 1 (R164). -/
theorem State.withCursor_zero_of_cursor_eq {s : State} (h : s.cursor = 0) : { s with cursor := 0 } = s :=
  h ▸ rfl

/-- Settles O53: the write puts the cursor to 0 and keeps every other field, so at byte 1 already it changes nothing. -/
theorem noticeWriteReturnsTheCursor : Obligations.NoticeWriteReturnsTheCursor := by
  unfold Obligations.NoticeWriteReturnsTheCursor
  intro v s hreleased
  have hwrite := exec_noticeCursorWrite_of_released v hreleased
  constructor
  · exact hwrite
  · intro hcursor
    rw [hwrite, State.withCursor_zero_of_cursor_eq hcursor]

end Sys2Proof.Machine
end

section
/-! What every event of the units keeps: it writes no register, configuration or slot, it records notices one after another, and it
keeps the channels (R47 to R56, R134), the standby descent and the resume list (R116, R121) in the order they stood in. -/

namespace Sys2Proof.Machine

/-- Every channel's state, timers, stuck flag and filtered PG agree, and its debounce timer with its presence. -/
def State.chansSound (s : State) : Prop := ∀ c : Chan, (s.chan c).sound ∧ (s.chan c).debounceSound

/-- From one state to the other units have served events. -/
structure Served (s t : State) : Prop where
  frame : t = { s with
    posted := t.posted, sources := t.sources, chans := t.chans, loads := t.loads, holders := t.holders, queue := t.queue
    descent := t.descent, resume := t.resume, seq := t.seq, fifo := t.fifo }
  recorded : ∃ ns, t.fifo = s.fifoAfter ns
  chans : s.chansSound → t.chansSound
  descent : t.descent = .inactive ↔ s.descent = .inactive
  resume_nodup : s.resume.Nodup → t.resume.Nodup
  resume_nil : s.descent = .inactive → s.resume = [] → t.resume = []

namespace Served

variable {s t u : State}

/-! ## What the events never change -/

theorem pending_eq (h : Served s t) : t.pending = s.pending := by rw [h.frame]
theorem phase_eq (h : Served s t) : t.phase = s.phase := by rw [h.frame]
theorem unit_eq (h : Served s t) : t.unit = s.unit := by rw [h.frame]
theorem stby_eq (h : Served s t) : t.stby = s.stby := by rw [h.frame]
theorem halted_eq (h : Served s t) : t.halted = s.halted := by rw [h.frame]
theorem config_eq (h : Served s t) : t.config = s.config := by rw [h.frame]
theorem clock_eq (h : Served s t) : t.clock = s.clock := by rw [h.frame]
theorem cursor_eq (h : Served s t) : t.cursor = s.cursor := by rw [h.frame]
theorem running_eq (h : Served s t) : t.running = s.running := by
  simp only [State.running, State.released, h.phase_eq, h.unit_eq]

/-! ## One event after another -/

theorem of_frame (h : t = { s with
    posted := t.posted, sources := t.sources, loads := t.loads, holders := t.holders, queue := t.queue, seq := t.seq }) :
    Served s t := by
  have hchans : t.chans = s.chans := by rw [h]
  have hdescent : t.descent = s.descent := by rw [h]
  have hresume : t.resume = s.resume := by rw [h]
  have hfifo : t.fifo = s.fifo := by rw [h]
  refine ⟨by rw [hchans, hdescent, hresume, hfifo]; exact h, ⟨[], hfifo⟩, fun hs c => ?_, by rw [hdescent], by rw [hresume]; exact id,
    fun _ => by rw [hresume]; exact id⟩
  have hc : t.chan c = s.chan c := by rw [State.chan, State.chan, hchans]
  exact hc ▸ hs c

theorem refl (s : State) : Served s s := of_frame rfl

theorem fifoAfter_eq (h : Served s t) (ns : List Notice) :
    t.fifoAfter ns = ({ s with fifo := t.fifo } : State).fifoAfter ns := by
  rw [State.fifoAfter, State.fifoAfter, h.config_eq, h.clock_eq]

theorem trans (h : Served s t) (k : Served t u) : Served s u := by
  obtain ⟨ms, hms⟩ := h.recorded
  obtain ⟨ns, hns⟩ := k.recorded
  refine ⟨?_, ⟨ms ++ ns, ?_⟩, k.chans ∘ h.chans, k.descent.trans h.descent, k.resume_nodup ∘ h.resume_nodup,
    fun hd hr => k.resume_nil (h.descent.mpr hd) (h.resume_nil hd hr)⟩
  · have hu := k.frame
    rw [h.frame] at hu
    exact hu
  · rw [hns, h.fifoAfter_eq, fifoAfter_append, hms]

theorem foldl {α : Type} {f : State → α → State} (hf : ∀ s x, Served s (f s x)) (xs : List α) (s : State) :
    Served s (xs.foldl f s) := by
  induction xs generalizing s with
  | nil => exact refl s
  | cons x xs ih => exact (hf s x).trans (ih (f s x))

/-! ## Single changes -/

theorem post (s : State) (i : Instr) : Served s (s.post i) := of_frame rfl
theorem postAll (s : State) (is : List Instr) : Served s (s.postAll is) := of_frame rfl
theorem ask (s : State) (i : Instr) (x : DetectSource) : Served s (s.ask i x) := of_frame rfl
theorem consume (s : State) (i : Instr) : Served s (s.consume i) := of_frame rfl
theorem setLoad (s : State) (l : Load) (r : LoadRun) : Served s (s.setLoad l r) := of_frame rfl
theorem setRecord (s : State) (l : Load) (r : Option SeqRecord) : Served s (s.setRecord l r) := of_frame rfl

theorem handOver (n : Notice) (s : State) : Served s (handOver n s) := by
  rw [handOver_eq]
  exact ⟨rfl, ⟨[n], rfl⟩, id, Iff.rfl, id, fun _ => id⟩

/-- A load leaves the resume list. -/
theorem leaveResume (s : State) (p : Load → Bool) : Served s { s with resume := s.resume.filter p } :=
  ⟨rfl, ⟨[], rfl⟩, id, Iff.rfl, fun h => h.filter p, fun _ h => by simp [h]⟩

/-- A channel takes a sound record. -/
theorem setChan {c : Chan} {x : Channel}
    (h : (s.chan c).sound → (s.chan c).debounceSound → x.sound ∧ x.debounceSound) : Served s (s.setChan c x) := by
  refine ⟨rfl, ⟨[], rfl⟩, fun hs d => ?_, Iff.rfl, id, fun _ => id⟩
  rw [State.setChan_chan]
  split
  · exact h (hs c).1 (hs c).2
  · exact hs d

end Served

/-- Units have served events that the arbiter's books have no part in: the loads, the account, the queue and the lists stand as they
stood. -/
structure Aside (s t : State) : Prop extends Served s t where
  loads_eq : t.loads = s.loads
  holders_eq : t.holders = s.holders
  queue_eq : t.queue = s.queue
  resume_eq : t.resume = s.resume
  descent_eq : t.descent = s.descent

namespace Aside

variable {s t u : State}

theorem of_frame (h : t = { s with posted := t.posted, sources := t.sources, seq := t.seq }) : Aside s t := by
  rw [h]
  exact ⟨.of_frame rfl, rfl, rfl, rfl, rfl, rfl⟩

theorem refl (s : State) : Aside s s := of_frame rfl

theorem trans (h : Aside s t) (k : Aside t u) : Aside s u :=
  ⟨h.toServed.trans k.toServed, k.loads_eq.trans h.loads_eq, k.holders_eq.trans h.holders_eq, k.queue_eq.trans h.queue_eq,
    k.resume_eq.trans h.resume_eq, k.descent_eq.trans h.descent_eq⟩

theorem foldl {α : Type} {f : State → α → State} (hf : ∀ s x, Aside s (f s x)) (xs : List α) (s : State) :
    Aside s (xs.foldl f s) := by
  induction xs generalizing s with
  | nil => exact refl s
  | cons x xs ih => exact (hf s x).trans (ih (f s x))

theorem post (s : State) (i : Instr) : Aside s (s.post i) := of_frame rfl
theorem postAll (s : State) (is : List Instr) : Aside s (s.postAll is) := of_frame rfl
theorem ask (s : State) (i : Instr) (x : DetectSource) : Aside s (s.ask i x) := of_frame rfl
theorem consume (s : State) (i : Instr) : Aside s (s.consume i) := of_frame rfl
theorem setRecord (s : State) (l : Load) (r : Option SeqRecord) : Aside s (s.setRecord l r) := of_frame rfl

theorem handOver (n : Notice) (s : State) : Aside s (handOver n s) := by
  have h := Served.handOver n s
  rw [handOver_eq] at h ⊢
  exact ⟨h, rfl, rfl, rfl, rfl, rfl⟩

theorem noteRefusal (l : Load) (r : ResultCode × State) : Aside r.2 (noteRefusal l r) := by
  unfold Machine.noteRefusal
  split
  · exact handOver _ _
  · exact refl _

theorem noteMode (m : Mode) (s : State) : Aside s (noteMode m s) := by
  unfold Machine.noteMode
  split
  · exact refl s
  · exact handOver _ _

/-- A channel takes a sound record. -/
theorem setChan {c : Chan} {x : Channel}
    (h : (s.chan c).sound → (s.chan c).debounceSound → x.sound ∧ x.debounceSound) : Aside s (s.setChan c x) :=
  ⟨.setChan h, rfl, rfl, rfl, rfl, rfl⟩

end Aside

theorem State.setChan_setChan (s : State) (c : Chan) (x y : Channel) : (s.setChan c x).setChan c y = s.setChan c y := by
  simp [State.setChan]

/-! ## Channels and presence -/

/-- A fault begins a fall in a channel that has none running, whatever its filtered levels are. -/
theorem channelFault_setChan_aside {c : Chan} {x : Channel} {s : State} (cause : FaultCause)
    (h : (s.chan c).sound → (s.chan c).debounceSound → x.stuck = false ∧ x.debounceSound) :
    Aside s (channelFault c cause (s.setChan c x)) := by
  have hfalls : Aside s ((s.setChan c x).setChan c { x with
      lastFault := some cause
      state := .fall
      ramp := .stopped
      discharge := .running (s.chanConfig c).dischargeTime.toNat }) := by
    rw [State.setChan_setChan]
    refine Aside.setChan fun hs hd => ?_
    obtain ⟨hstuck, hdebounce⟩ := h hs hd
    exact ⟨by simp [Channel.sound, hstuck], hdebounce⟩
  have hx : (s.setChan c x).chan c = x := State.setChan_chan_self s c x
  unfold channelFault
  rw [hx]
  exact hfalls.trans ((Aside.handOver _ _).trans (.post _ _))

theorem State.setChan_self (s : State) (c : Chan) : s.setChan c (s.chan c) = s := by
  have : s.chans.set c (s.chan c) = s.chans := Vector.set_getElem_self _
  rw [State.setChan, this]

theorem channelFault_aside {c : Chan} {s : State} (cause : FaultCause) (h : (s.chan c).sound → (s.chan c).stuck = false) :
    Aside s (channelFault c cause s) := by
  have := channelFault_setChan_aside (c := c) (x := s.chan c) (s := s) cause fun hs hd => ⟨h hs, hd⟩
  rwa [State.setChan_self] at this

/-- Only a channel in FALL is stuck (R47, R56). -/
theorem Channel.not_stuck {ch : Channel} (hs : ch.sound) (h : ch.state ≠ .fall) : ch.stuck = false := by
  obtain ⟨-, hfall, hstuck, -⟩ := hs
  rw [Bool.eq_false_iff]
  intro ht
  exact h (hfall.mp (by rw [hstuck.mp ht]; exact nofun))

theorem beginFall_aside {c : Chan} {s : State} (h : (s.chan c).state ≠ .fall) : Aside s (beginFall c s) := by
  refine Aside.setChan fun hs hd => ⟨?_, hd⟩
  simp [Channel.sound, Channel.not_stuck hs h]

theorem endFall_setChan_aside {c : Chan} {x : Channel} {s : State}
    (h : (s.chan c).sound → (s.chan c).debounceSound → x.state = .fall ∧ x.ramp = .stopped ∧ x.debounceSound) :
    Aside s (endFall c (s.setChan c x)) := by
  have hoff : Aside s ((s.setChan c x).setChan c { x with
      state := .off, discharge := .stopped, stuck := false, strayNoted := false }) := by
    rw [State.setChan_setChan]
    refine Aside.setChan fun hs hd => ?_
    obtain ⟨-, hramp, hdebounce⟩ := h hs hd
    exact ⟨by simp [Channel.sound, hramp], hdebounce⟩
  unfold endFall
  rw [State.setChan_chan_self]
  exact hoff.trans (.post _ _)

theorem Channel.ramp_stopped {ch : Channel} (hs : ch.sound) (h : ch.state ≠ .ramp) : ch.ramp = .stopped := by
  by_contra hr
  exact h (hs.1.mp hr)

theorem endFall_aside {c : Chan} {s : State} (h : (s.chan c).state = .fall) : Aside s (endFall c s) := by
  have := endFall_setChan_aside (c := c) (x := s.chan c) (s := s)
    fun hs hd => ⟨h, Channel.ramp_stopped hs (by rw [h]; exact nofun), hd⟩
  rwa [State.setChan_self] at this

/-- A channel comes to ON out of a state without a fall, with PG high (R51). -/
theorem enterOn_setChan_aside {c : Chan} {x : Channel} {s : State}
    (h : (s.chan c).sound → (s.chan c).debounceSound →
      x.discharge = .stopped ∧ x.stuck = false ∧ x.pg = true ∧ x.debounceSound) :
    Aside s (enterOn c (s.setChan c x)) := by
  have hon : Aside s ((s.setChan c x).setChan c { x with state := .on, ramp := .stopped }) := by
    rw [State.setChan_setChan]
    refine Aside.setChan fun hs hd => ?_
    obtain ⟨hdischarge, hstuck, hpg, hdebounce⟩ := h hs hd
    exact ⟨by simp [Channel.sound, hdischarge, hstuck, hpg], hdebounce⟩
  unfold enterOn
  rw [State.setChan_chan_self]
  exact hon.trans (.post _ _)

theorem Channel.discharge_stopped {ch : Channel} (hs : ch.sound) (h : ch.state ≠ .fall) : ch.discharge = .stopped := by
  by_contra hr
  exact h (hs.2.1.mp hr)

theorem enterOn_aside {c : Chan} {s : State} (h : (s.chan c).state ≠ .fall) (hpg : (s.chan c).pg = true) :
    Aside s (enterOn c s) := by
  have := enterOn_setChan_aside (c := c) (x := s.chan c) (s := s)
    fun hs hd => ⟨Channel.discharge_stopped hs h, Channel.not_stuck hs h, hpg, hd⟩
  rwa [State.setChan_self] at this

theorem channelStart_aside (c : Chan) (s : State) : Aside s (channelStart c s) := by
  have hramp (h : (s.chan c).state = .off ∨ (s.chan c).state = .waitTurn) :
      Aside s (if (s.chan c).flt then channelFault c .overcurrent s
        else if (s.chan c).pg then enterOn c s
        else s.setChan c { s.chan c with state := .ramp, ramp := .running (s.chanConfig c).rampTimeout.toNat }) := by
    have hnofall : (s.chan c).state ≠ .fall := by rcases h with h | h <;> simp [h]
    split
    · exact channelFault_aside _ fun hs => Channel.not_stuck hs hnofall
    · split
      next hpg => exact enterOn_aside hnofall hpg
      next hpg =>
        refine Aside.setChan fun hs hd => ⟨?_, hd⟩
        simp [Channel.sound, Channel.discharge_stopped hs hnofall, Channel.not_stuck hs hnofall, hpg]
  unfold channelStart
  dsimp only
  split
  case h_1 hoff => exact hramp (.inl hoff)
  case h_2 hwait => exact hramp (.inr hwait)
  all_goals exact .refl s

/-- A channel moves between OFF and WAIT_TURN (R49, R50). -/
theorem setChan_rest_aside {c : Chan} {s : State} {st : ChanState}
    (h : (s.chan c).state = .off ∨ (s.chan c).state = .waitTurn) (ht : st = .off ∨ st = .waitTurn) :
    Aside s (s.setChan c { s.chan c with state := st }) := by
  refine Aside.setChan fun hs hd => ⟨?_, hd⟩
  have hnofall : (s.chan c).state ≠ .fall := by rcases h with h | h <;> simp [h]
  have hnoramp : (s.chan c).state ≠ .ramp := by rcases h with h | h <;> simp [h]
  rcases ht with rfl | rfl <;>
    simp [Channel.sound, Channel.discharge_stopped hs hnofall, Channel.not_stuck hs hnofall, Channel.ramp_stopped hs hnoramp]

theorem channelWait_aside (c : Chan) (s : State) : Aside s (channelWait c s) := by
  unfold channelWait
  split
  case h_1 hoff => exact setChan_rest_aside (.inl hoff) (.inr rfl)
  all_goals exact .refl s

theorem channelFall_aside (c : Chan) (s : State) : Aside s (channelFall c s) := by
  unfold channelFall
  split
  case h_1 hwait => exact setChan_rest_aside (.inr hwait) (.inl rfl)
  case h_2 hst | h_3 hst => exact beginFall_aside (by rw [hst]; exact nofun)
  all_goals exact .refl s

theorem channelCancel_aside (c : Chan) (s : State) : Aside s (channelCancel c s) := by
  unfold channelCancel
  split
  case h_1 hwait => exact setChan_rest_aside (.inr hwait) (.inl rfl)
  all_goals exact .refl s

theorem noteStray_aside (c : Chan) (s : State) : Aside s (noteStray c s) := by
  unfold noteStray
  split
  · have hnoted : Aside s (s.setChan c { s.chan c with strayNoted := true }) := .setChan fun hs hd => ⟨hs, hd⟩
    exact hnoted.trans (.handOver _ _)
  · exact .refl s

/-- The filtered PG rises, in a channel that does not ramp up (R48, R49, R53, R55). -/
theorem setPg_true_aside {c : Chan} {s : State} (h : (s.chan c).state ≠ .ramp) : Aside s (setPg c true s) := by
  refine Aside.setChan fun hs hd => ⟨?_, hd⟩
  obtain ⟨hramp, hfall, hstuck, -, -, -⟩ := hs
  exact ⟨hramp, hfall, hstuck, fun hr => absurd hr h, fun _ => rfl, fun _ => rfl⟩

/-- The filtered PG falls, in a channel that is neither ON nor stuck (R48, R49, R51, R55). -/
theorem setPg_false_aside {c : Chan} {s : State} (hon : (s.chan c).state ≠ .on)
    (h : (s.chan c).sound → (s.chan c).stuck = false) : Aside s (setPg c false s) := by
  refine Aside.setChan fun hs hd => ⟨?_, hd⟩
  have hns := h hs
  obtain ⟨hramp, hfall, hstuck, -, -, -⟩ := hs
  exact ⟨hramp, hfall, hstuck, fun _ => rfl, fun hr => absurd hr hon, fun ht => absurd (hns.symm.trans ht) nofun⟩

theorem setFlt_aside (c : Chan) (b : Bool) (s : State) : Aside s (setFlt c b s) := .setChan fun hs hd => ⟨hs, hd⟩

theorem channelPgRise_aside (c : Chan) (s : State) : Aside s (channelPgRise c s) := by
  unfold channelPgRise
  split
  · exact .refl s
  · dsimp only
    split
    case h_1 hst | h_2 hst => exact (setPg_true_aside (by rw [hst]; exact nofun)).trans (noteStray_aside _ _)
    case h_3 hst =>
      have hnofall : (s.chan c).state ≠ .fall := by rw [hst]; exact nofun
      exact enterOn_setChan_aside fun (hs : (s.chan c).sound) hd =>
        ⟨(Channel.discharge_stopped hs hnofall :), (Channel.not_stuck hs hnofall :), rfl, hd⟩
    case h_4 hst | h_5 hst => exact setPg_true_aside (by rw [hst]; exact nofun)

theorem channelPgFall_aside (c : Chan) (s : State) : Aside s (channelPgFall c s) := by
  unfold channelPgFall
  split
  · exact .refl s
  · dsimp only
    split
    case h_1 hst =>
      have hnofall : (s.chan c).state ≠ .fall := by rw [hst]; exact nofun
      exact channelFault_setChan_aside _ fun hs hd => ⟨(Channel.not_stuck hs hnofall :), hd⟩
    case h_2 hst =>
      split
      next =>
        have hnoramp : (s.chan c).state ≠ .ramp := by rw [hst]; exact nofun
        exact endFall_setChan_aside fun hs hd => ⟨hst, (Channel.ramp_stopped hs hnoramp :), hd⟩
      next hexp =>
        refine setPg_false_aside (by rw [hst]; exact nofun) fun hs => ?_
        rw [Bool.eq_false_iff]
        exact fun ht => hexp (hs.2.2.1.mp ht)
    case h_3 hst | h_4 hst | h_5 hst =>
      exact setPg_false_aside (by rw [hst]; exact nofun) fun hs => Channel.not_stuck hs (by rw [hst]; exact nofun)

theorem channelFltAsserted_aside (c : Chan) (s : State) : Aside s (channelFltAsserted c s) := by
  have hfault (h : (s.chan c).state ≠ .fall) : Aside s (channelFault c .overcurrent (setFlt c true s)) :=
    (setFlt_aside c true s).trans (channelFault_aside _ fun hs => Channel.not_stuck hs (by simpa [setFlt] using h))
  unfold channelFltAsserted
  split
  · exact .refl s
  · dsimp only
    split
    case h_1 hst | h_2 hst => exact hfault (by rw [hst]; exact nofun)
    all_goals exact setFlt_aside c true s

theorem channelFltDeasserted_aside (c : Chan) (s : State) : Aside s (channelFltDeasserted c s) := by
  unfold channelFltDeasserted
  split
  · exact setFlt_aside c false s
  · exact .refl s

theorem channelRampExpiry_aside (c : Chan) (s : State) : Aside s (channelRampExpiry c s) := by
  unfold channelRampExpiry
  split
  case h_1 hst _ => exact channelFault_aside _ fun hs => Channel.not_stuck hs (by rw [hst]; exact nofun)
  case h_2 => exact .refl s

theorem channelDischargeExpiry_aside (c : Chan) (s : State) : Aside s (channelDischargeExpiry c s) := by
  unfold channelDischargeExpiry
  split
  case h_1 hst _ =>
    split
    next hpg =>
      have hstuck : Aside s (s.setChan c { s.chan c with discharge := .expired, stuck := true }) := by
        refine .setChan fun hs hd => ⟨?_, hd⟩
        simp [Channel.sound, Channel.ramp_stopped hs (by rw [hst]; exact nofun), hst, hpg]
      exact hstuck.trans (.handOver _ _)
    next => exact endFall_aside hst
  case h_2 => exact .refl s

theorem channelDeclareOff_aside (c : Chan) (s : State) : Aside s (channelDeclareOff c s).2 := by
  unfold channelDeclareOff
  split
  case h_1 hst _ => exact endFall_aside hst
  case h_2 => exact .refl s

theorem reportPresence_aside (c : Chan) (present : Bool) (s : State) : Aside s (reportPresence c present s) := by
  unfold reportPresence
  split
  case h_1 => exact .refl s
  all_goals
    refine (Aside.handOver (if present then .attach c else .detach c) s).trans ?_
    generalize handOver (if present then .attach c else .detach c) s = t
    by_cases hacting : t.config.acting c = true
    · simp only [hacting, if_true]
      exact .ask _ _ _
    · simp only [hacting]
      exact .refl t

/-- A channel whose detect state alone has changed is settled (R134). -/
theorem settlePresence_setChan_aside {c : Chan} {x : Channel} {s : State} (h : (s.chan c).sound → x.sound) :
    Aside s (settlePresence c (s.setChan c x)) := by
  have hset : Aside s ((s.setChan c x).setChan c { x with present := x.det, debounce := .stopped }) := by
    rw [State.setChan_setChan]
    exact .setChan fun hs _ => ⟨h hs, by simp [Channel.debounceSound]⟩
  unfold settlePresence
  rw [State.setChan_chan_self]
  dsimp only
  split
  · exact hset
  · exact hset.trans (reportPresence_aside _ _ _)

/-- The detect unit settles the channel or starts its debounce (R134). -/
theorem debounce_setChan_aside {c : Chan} {x : Channel} {s : State} (h : (s.chan c).sound → x.sound) :
    Aside s (debounce c (s.setChan c x)) := by
  have hset (d : Timer) (hd : d ≠ .stopped ↔ x.det ≠ x.present) :
      Aside s ((s.setChan c x).setChan c { x with debounce := d }) := by
    rw [State.setChan_setChan]
    exact .setChan fun hs _ => ⟨h hs, hd⟩
  unfold debounce
  rw [State.setChan_chan_self]
  dsimp only
  split
  next heq => exact hset .stopped (by simp [heq])
  next hne =>
    split
    · exact settlePresence_setChan_aside h
    · exact hset (.running _) (by simp [hne])

theorem takeDetFilter_aside (c : Chan) (high : Bool) (s : State) : Aside s (takeDetFilter c high s) := by
  unfold takeDetFilter
  split
  · exact debounce_setChan_aside id
  · exact .refl s

theorem takeDebounceExpiry_aside (c : Chan) (s : State) : Aside s (takeDebounceExpiry c s) := by
  unfold takeDebounceExpiry
  split
  · have := settlePresence_setChan_aside (c := c) (x := s.chan c) (s := s) id
    rwa [State.setChan_self] at this
  · exact .refl s

theorem represent_aside (source : DetectSource) (s : State) (c : Chan) : Aside s (represent source s c) := by
  unfold represent
  split
  · exact .ask _ _ _
  · exact .refl s

theorem representLoad_aside (l : Load) (s : State) : Aside s (representLoad l s) := by
  unfold representLoad
  split
  · exact .refl s
  · exact represent_aside _ _ _

/-! ## The load sequencer -/

theorem takeGrant_aside (l : Load) (s : State) : Aside s (takeGrant l s) := by
  unfold takeGrant
  dsimp only
  split <;> exact .of_frame rfl

theorem startNext_aside (l : Load) (r : SeqRecord) (s : State) : Aside s (startNext l r s) := by
  unfold startNext
  split <;> exact .of_frame rfl

theorem takeChannelOn_aside (c : Chan) (s : State) : Aside s (takeChannelOn c s) := by
  unfold takeChannelOn
  dsimp only
  split
  · exact .refl s
  · split
    · split
      · exact .of_frame rfl
      · split
        · exact .setRecord _ _ _
        · split
          · exact startNext_aside _ _ s
          · exact .setRecord _ _ _
    · exact .refl s

theorem takeStaggerExpiry_aside (l : Load) (s : State) : Aside s (takeStaggerExpiry l s) := by
  unfold takeStaggerExpiry
  split
  · exact .refl s
  · split
    · dsimp only
      split
      · exact .setRecord _ _ _
      · exact startNext_aside _ _ s
    · exact .refl s

theorem lowerNext_aside (l : Load) (r : SeqRecord) (s : State) : Aside s (lowerNext l r s) := by
  unfold lowerNext
  dsimp only
  split <;> exact .of_frame rfl

theorem takeFallComplete_aside (c : Chan) (s : State) : Aside s (takeFallComplete c s) := by
  unfold takeFallComplete
  dsimp only
  split
  · exact .refl s
  · split
    case h_5 =>
      split
      · exact lowerNext_aside _ _ s
      · exact .setRecord _ _ _
    case h_6 => split <;> exact .of_frame rfl
    all_goals exact .setRecord _ _ _

theorem takeOrderlyOrder_aside (l : Load) (s : State) : Aside s (takeOrderlyOrder l s) := by
  unfold takeOrderlyOrder
  dsimp only
  split
  · exact .refl s
  · split
    · exact (Aside.postAll s _).trans (lowerNext_aside _ _ _)
    · exact .of_frame rfl

theorem takeTripOrder_aside (l : Load) (s : State) : Aside s (takeTripOrder l s) := by
  unfold takeTripOrder
  dsimp only
  split
  · exact .refl s
  · split
    · exact .refl s
    · split
      · exact .of_frame rfl
      · split <;> exact .of_frame rfl

theorem examineRecord_aside (s : State) (l : Load) : Aside s (examineRecord s l) := by
  unfold examineRecord
  split
  · exact .refl s
  · split
    · exact .refl s
    · split
      case h_1 =>
        split
        · exact .refl s
        · exact .of_frame rfl
      case h_2 => exact lowerNext_aside _ _ s
      all_goals exact .refl s

theorem takeReturn_aside (l : Load) (s : State) : Aside s (takeReturn l s) :=
  (Aside.setRecord s l none).trans (.foldl examineRecord_aside allLoads _)

theorem takeCancelDrain_aside (l : Load) (s : State) : Aside s (takeCancelDrain l s) := by
  unfold takeCancelDrain
  split
  · exact .refl s
  · split
    · exact .setRecord _ _ _
    all_goals exact .refl s

/-! ## The arbiter -/

theorem grant_served (e : Entry) (s : State) : Served s (grant e s) := by
  have hholds : Served s { s with holders := s.holders ++ [{ load := e.load, amount := s.config.claimOf e.load }] } :=
    .of_frame rfl
  exact hholds.trans ((Served.setLoad _ _ _).trans ((Served.handOver _ _).trans (.post _ _)))

theorem scan_served (q : List Entry) (s : State) : Served s (scan q s).2.2 := by
  induction q generalizing s with
  | nil => exact .refl s
  | cons e q ih =>
    unfold scan
    split
    · exact ih s
    · split
      · exact (grant_served e s).trans (ih (grant e s))
      · split
        · exact ih s
        · exact .refl s

theorem grantPass_served (s : State) : Served s (grantPass s) := by
  unfold grantPass
  split
  · exact .refl s
  · exact (scan_served s.queue s).trans (.of_frame rfl)

theorem enterIdle_served (l : Load) (s : State) : Served s (enterIdle l s) := .of_frame rfl
theorem enterDescending_served (l : Load) (a : After) (s : State) : Served s (enterDescending l a s) := .of_frame rfl
theorem descendInOrder_served (l : Load) (a : After) (s : State) : Served s (descendInOrder l a s) := .of_frame rfl
theorem enqueue_served (o : Origin) (l : Load) (s : State) : Served s (enqueue o l s) := .of_frame rfl
theorem withdraw_served (l : Load) (st : LoadState) (s : State) : Served s (withdraw l st s) :=
  (Served.setLoad s l _).trans (.leaveResume _ _)

/-- A selection in a standby descent that runs: the load it takes down joins the resume list once (R117, R118). -/
theorem select_served {s : State} (h : s.descent ≠ .inactive) : Served s (select s) := by
  unfold select
  split
  · exact ⟨rfl, ⟨[], rfl⟩, id, by simp [h], id, fun hd => absurd hd h⟩
  · refine ⟨rfl, ⟨[], rfl⟩, id, by simp [lowerLoad, h], fun hn => ?_, fun hd => absurd hd h⟩
    simp only [lowerLoad]
    split
    next hin =>
      simp only [Bool.and_eq_true, Bool.not_eq_true', List.contains_eq_mem, decide_eq_false_iff_not] at hin
      rw [← List.concat_eq_append]
      exact hn.concat hin.2
    next => exact hn

theorem selectIfSeeking_served (s : State) : Served s (selectIfSeeking s) := by
  unfold selectIfSeeking
  split
  next h => exact select_served (by rw [h]; exact nofun)
  next => exact .refl s

theorem judge_served (o : Origin) (l : Load) (s : State) : Served s (judge o l s).2 := by
  obtain ⟨_, _, _, h⟩ := judge_changes o l s
  rw [h]
  exact .of_frame rfl

theorem request_served (o : Origin) (l : Load) (s : State) : Served s (request o l s).2 := by
  have hj := judge_served o l s
  simp only [request]
  split
  · exact hj.trans (grantPass_served _)
  · exact hj.trans ((grantPass_served _).trans (selectIfSeeking_served _))
  · exact hj

theorem beginDrain_served (l : Load) (s : State) : Served s (beginDrain l s) := by
  obtain ⟨_, _, _, h⟩ := beginDrain_changes l s
  rw [h]
  exact .of_frame rfl

theorem releaseByState_served (l : Load) (s : State) : Served s (releaseByState l s).2 := by
  unfold releaseByState
  split
  case h_4 =>
    have hleaves : Served s { s with queue := s.queue.filter fun e => e.load != l } := .of_frame rfl
    exact hleaves.trans ((enterIdle_served l _).trans (grantPass_served _))
  case h_6 =>
    dsimp only
    split
    · exact descendInOrder_served l .idle s
    · exact beginDrain_served l s
  all_goals exact .of_frame rfl

theorem releaseLoad_served (l : Load) (s : State) : Served s (releaseLoad l s).2 :=
  (Served.leaveResume s (· != l)).trans (releaseByState_served l _)

theorem trip_served (l : Load) (a : After) (s : State) : Served s (trip l a s) := by
  obtain ⟨_, _, h⟩ := trip_changes l a s
  rw [h]
  exact .of_frame rfl

theorem shed_served (v : Load) (s : State) : Served s (shed v s) := (Served.handOver _ s).trans (trip_served v _ _)

theorem shedDown_served (fuel : Nat) (s : State) : Served s (shedDown fuel s) := by
  induction fuel generalizing s with
  | zero => exact .refl s
  | succ fuel ih =>
    unfold shedDown
    split
    · exact .refl s
    · split
      · exact .refl s
      · exact (shed_served _ s).trans (ih _)

theorem noteMode_served (m : Mode) (s : State) : Served s (noteMode m s) := (Aside.noteMode m s).toServed

theorem takeLoadUp_served (l : Load) (s : State) : Served s (takeLoadUp l s) := by
  unfold takeLoadUp
  split
  case h_1 => exact (Served.setLoad s l _).trans ((Served.handOver _ _).trans (grantPass_served _))
  all_goals exact .refl s

theorem settleLoad_served (l : Load) (next : DownState) (s : State) : Served s (settleLoad l next s) := by
  cases next <;> exact .of_frame rfl

/-- The descent goes on where one runs, so it does not become INACTIVE (R119, R120). -/
theorem continueDescent_served (l : Load) (s : State) : Served s (continueDescent l s) := by
  unfold continueDescent
  split
  case h_1 h =>
    have hruns : s.descent ≠ .inactive := by rw [h]; exact nofun
    split
    · split
      · exact select_served hruns
      · exact ⟨rfl, ⟨[], rfl⟩, id, by simp [hruns], id, fun hd => absurd hd hruns⟩
    · exact .refl s
  case h_2 h => exact select_served (by rw [h]; exact nofun)
  all_goals exact .refl s

theorem takeDescentEnded_served (l : Load) (s : State) : Served s (takeDescentEnded l s) := by
  unfold takeDescentEnded
  split
  case h_1 =>
    have hleaves : Served s { s with holders := s.holders.filter fun h => h.load != l } := .of_frame rfl
    refine hleaves.trans ((Served.post _ (.returnReport l)).trans ?_)
    exact (Served.handOver _ _).trans ((settleLoad_served l _ _).trans ((noteMode_served _ _).trans
      ((grantPass_served _).trans (continueDescent_served l _))))
  all_goals exact .refl s

theorem takeDrainEnded_served (l : Load) (s : State) : Served s (takeDrainEnded l s) := by
  unfold takeDrainEnded
  split
  case h_1 => exact descendInOrder_served l .idle s
  all_goals exact .refl s

theorem takeFaultReport_served (c : Chan) (s : State) : Served s (takeFaultReport c s) := by
  unfold takeFaultReport
  dsimp only
  split
  · exact trip_served _ _ s
  · exact .refl s

theorem takeCoolDownExpiry_served (l : Load) (s : State) : Served s (takeCoolDownExpiry l s) := by
  unfold takeCoolDownExpiry
  split
  case h_1 => exact (Served.setLoad s l _).trans ((enqueue_served .retry l _).trans (grantPass_served _))
  case h_2 => exact .refl s

theorem takeStableExpiry_served (l : Load) (s : State) : Served s (takeStableExpiry l s) := by
  unfold takeStableExpiry
  split
  · exact .setLoad _ _ _
  · exact .refl s

theorem takeSpacingExpiry_served (s : State) : Served s (takeSpacingExpiry s) := by
  unfold takeSpacingExpiry
  split
  next h => exact select_served (by rw [h]; exact nofun)
  all_goals exact .refl s

/-! ## Events in the order sent -/

theorem deliver_served (i : Instr) (s : State) : Served s (deliver i s) := by
  cases i with
  | startRamp c => exact (channelStart_aside c s).toServed
  | waitTurn c => exact (channelWait_aside c s).toServed
  | fall c => exact (channelFall_aside c s).toServed
  | cancelTurn c => exact (channelCancel_aside c s).toServed
  | grantHandover l => exact (takeGrant_aside l s).toServed
  | orderlyDescentOrder l => exact (takeOrderlyOrder_aside l s).toServed
  | tripOrder l => exact (takeTripOrder_aside l s).toServed
  | returnReport l => exact (takeReturn_aside l s).toServed
  | cancelDrain l => exact (takeCancelDrain_aside l s).toServed
  | channelOn c => exact (takeChannelOn_aside c s).toServed
  | fallComplete c => exact (takeFallComplete_aside c s).toServed
  | loadUp l => exact takeLoadUp_served l s
  | descentEnded l => exact takeDescentEnded_served l s
  | drainEnded l => exact takeDrainEnded_served l s
  | faultReport c _ => exact takeFaultReport_served c s
  | autoRequest l => exact (request_served .auto l s).trans (Aside.noteRefusal l _).toServed
  | autoRelease l => exact releaseLoad_served l s
  | bootRequest l => exact (request_served .boot l s).trans (Aside.noteRefusal l _).toServed
  | _ => exact .refl s

theorem serve_served (s : State) (i : Instr) : Served s (serve s i) := (Served.consume s i).trans (deliver_served i _)

theorem takeInOrder_served {i : Instr} {s t : State} (h : takeInOrder i s = .next t) : Served s t :=
  takeInOrder_keeps (P := Served s) (fun hs => hs.trans (.post s i)) (fun hs => hs.trans (.consume s i))
    (fun j u _ hu => hu.trans (serve_served u j)) h (.refl s)

theorem settleFor_served (p : Instr → DetectSource → Bool) (s : State) : Served s (settleFor p s) :=
  settleFor_keeps (P := Served s) (fun j u _ hu => hu.trans (serve_served u j)) (.refl s)

end Sys2Proof.Machine
end

section
/-! Every command keeps the notice FIFO within its places (R162, R164) and the channels in agreement (R47 to R56, R134). -/

namespace Sys2Proof.Machine

/-! ## The forms of a command -/

/-- A property that neither the events in flight nor the registers of the mailbox bear on. -/
structure Robust (P : State → Prop) : Prop where
  consume : ∀ s i, P s → P (s.consume i)
  taken : ∀ s code, P s → P (s.taken code)
  completed : ∀ s r, P s → P (s.completed r)
  overrun : ∀ s : State, P s → P { s with overrun := true }

namespace Robust

variable {P : State → Prop} (hP : Robust P) {s t : State}
include hP

theorem takeEvent {i : Instr} {act : State → State} (ha : s.running = true → P (s.consume i) → P (act (s.consume i)))
    (h : takeEvent i act s = .next t) (hs : P s) : P t := by
  cases hr : s.running with
  | true =>
    rw [takeEvent_of_running hr] at h
    cases h
    exact ha hr (hP.consume s i hs)
  | false =>
    rw [takeEvent_of_not_running hr] at h
    cases h
    exact hP.consume s i hs

omit hP in
theorem strobe {act : State → State} (ha : s.phase = .released → P s → P (act s)) (h : strobe act s = .next t) (hs : P s) :
    P t := by
  by_cases hr : s.phase = .released
  · rw [strobe_of_released hr] at h
    cases h
    exact ha hr hs
  · rw [strobe_of_not_released hr] at h
    cases h
    exact hs

theorem immediate {code : Byte} {owner : State → ResultCode × State}
    (ha : s.takesCommands → P (s.taken code) → P (owner (s.taken code)).2) (h : immediate code owner s = .next t)
    (hs : P s) : P t := by
  refine Robust.strobe (fun hr hs => ?_) h hs
  by_cases hu : s.unit = .ready
  · rw [writeCmd_of_ready hu]
    exact hP.completed _ _ (ha ⟨hr, hu⟩ (hP.taken s code hs))
  · rw [writeCmd_of_busy hu]
    exact hP.overrun s hs

theorem longCommand {code : Byte} {start : State → ResultCode ⊕ LongOp}
    (ha : s.takesCommands → P (s.taken code) → ∀ op, start (s.taken code) = .inr op →
      P { s.taken code with unit := .executing op })
    (h : longCommand code start s = .next t) (hs : P s) : P t := by
  refine Robust.strobe (fun hr hs => ?_) h hs
  by_cases hu : s.unit = .ready
  · rw [writeCmd_of_ready hu]
    have htaken := hP.taken s code hs
    split
    · exact hP.completed _ _ htaken
    next op hop => exact ha ⟨hr, hu⟩ htaken op hop
  · rw [writeCmd_of_busy hu]
    exact hP.overrun s hs

omit hP in
/-- A command on the load of ARG0 keeps what it keeps on every load; BAD_TARGET changes nothing (R149). -/
theorem onLoad {act : Load → State → ResultCode × State} (ha : ∀ l, P s → P (act l s).2) (hs : P s) :
    P (onLoad act s).2 := by
  unfold Machine.onLoad
  split
  · exact ha _ hs
  · exact hs

end Robust

/-! ## The notice FIFO -/

/-- A notice is stored within the sixteen places, the last of which only an OVERFLOW record takes (R162). -/
theorem storeNotice_places {q : List Record} (n : Notice) (now : Word16) (hlen : q.length ≤ Config.fifoDepth) :
    (storeNotice n now q).length ≤ Config.fifoDepth
      ∧ ((storeNotice n now q).length = Config.fifoDepth →
        (storeNotice n now q = q ∨ ∃ r ∈ (storeNotice n now q).getLast?, kindCode r.notice = 15))
      ∧ storeNotice n now q ≠ [] := by
  simp only [Config.fifoDepth] at hlen ⊢
  unfold storeNotice Config.fifoOrdinary Config.fifoDepth
  split
  next hfew =>
    simp only [List.length_append, List.length_singleton]
    exact ⟨by omega, by omega, by simp⟩
  next hmany =>
    have hpos : q ≠ [] := by rintro rfl; simp at hmany
    have hdrop := List.length_dropLast (xs := q)
    split
    next k time hlast =>
      simp only [List.length_append, List.length_singleton, hdrop]
      exact ⟨by omega, fun _ => .inr ⟨_, List.getLast?_concat, rfl⟩, by simp⟩
    next =>
      split
      · simp only [List.length_append, List.length_singleton]
        exact ⟨by omega, fun _ => .inr ⟨_, List.getLast?_concat, rfl⟩, by simp⟩
      · exact ⟨hlen, fun _ => .inl rfl, hpos⟩

theorem handOver_fifoSound (n : Notice) {s : State} (h : s.fifoSound) : (handOver n s).fifoSound := by
  unfold handOver
  split
  · obtain ⟨hlen, hfull, -⟩ := h
    obtain ⟨hlen', hfull', hne⟩ := storeNotice_places n s.clock hlen
    refine ⟨hlen', fun hf => ?_, fun hnil => absurd hnil hne⟩
    rcases hfull' hf with hsame | hlast
    · have hlast := hfull (hsame ▸ hf)
      rwa [← hsame] at hlast
    · exact hlast
  · exact h

theorem fifoSound_of_eq {s t : State} (hf : t.fifo = s.fifo) (hc : t.cursor = s.cursor) (h : s.fifoSound) : t.fifoSound := by
  unfold State.fifoSound
  rw [hf, hc]
  exact h

/-- Notices recorded one after another. -/
theorem fifoSound_fifoAfter (ns : List Notice) {s : State} (h : s.fifoSound) :
    ({ s with fifo := s.fifoAfter ns } : State).fifoSound := by
  induction ns generalizing s with
  | nil => exact h
  | cons n ns ih =>
    have htail := ih (handOver_fifoSound n h)
    rw [handOver_eq] at htail
    have hcons : s.fifoAfter (n :: ns) = _ := fifoAfter_append s [n] ns
    exact fifoSound_of_eq (t := { s with fifo := s.fifoAfter (n :: ns) }) hcons rfl htail

theorem Served.fifoSound {s t : State} (h : Served s t) (hs : s.fifoSound) : t.fifoSound := by
  obtain ⟨ns, hns⟩ := h.recorded
  exact fifoSound_of_eq (s := { s with fifo := s.fifoAfter ns }) hns h.cursor_eq (fifoSound_fifoAfter ns hs)

theorem readNotice_changes (s : State) : ∃ b q k, readNotice s = { s with busOut := b, fifo := q, cursor := k } := by
  unfold readNotice
  dsimp only
  split
  · exact ⟨_, _, _, rfl⟩
  · split <;> exact ⟨_, _, _, rfl⟩

theorem readNotice_fifoSound {s : State} (h : s.fifoSound) : (readNotice s).fifoSound := by
  obtain ⟨hlen, hfull, hnil⟩ := h
  unfold readNotice
  dsimp only
  split
  next hempty => exact ⟨hlen, hfull, hnil⟩
  next r rest hfifo =>
    rw [hfifo] at hlen hfull
    simp only [List.length_cons] at hlen
    split
    · exact ⟨by dsimp only; omega, fun hf => by dsimp only at hf; omega, fun _ => rfl⟩
    · refine ⟨?_, ?_, ?_⟩
      · simpa [hfifo] using hlen
      · simpa [hfifo] using hfull
      · simp [hfifo]

/-! ## The channels -/

/-- The record of a channel after its detect unit has taken a change of the filtered DET (R134). -/
def Channel.debounced (ch : Channel) (ms : Byte) : Channel :=
  if ch.det = ch.present then { ch with debounce := .stopped }
  else if ms = 0 then { ch with present := ch.det, debounce := .stopped }
  else { ch with debounce := .running ms.toNat }

theorem reportPresence_chan (c : Chan) (b : Bool) (s : State) (d : Chan) : (reportPresence c b s).chan d = s.chan d := by
  obtain ⟨_, _, _, h⟩ := reportPresence_changes c b s
  rw [h]
  rfl

theorem settlePresence_chan (c : Chan) (s : State) (d : Chan) :
    (settlePresence c s).chan d =
      if c = d then { s.chan c with present := (s.chan c).det, debounce := .stopped } else s.chan d := by
  unfold settlePresence
  dsimp only
  split
  · rw [State.setChan_chan]
  · rw [reportPresence_chan, State.setChan_chan]

theorem debounce_chan (c : Chan) (s : State) (d : Chan) :
    (debounce c s).chan d = if c = d then (s.chan c).debounced (s.chanConfig c).debounce else s.chan d := by
  unfold debounce Channel.debounced
  dsimp only
  split
  · rw [State.setChan_chan]
  · split
    · rw [settlePresence_chan]
    · rw [State.setChan_chan]

theorem Channel.debounced_sound (ch : Channel) (ms : Byte) :
    ((ch.debounced ms).sound ↔ ch.sound) ∧ (ch.debounced ms).debounceSound := by
  unfold Channel.debounced
  split
  next h => exact ⟨Iff.rfl, by simp [Channel.debounceSound, h]⟩
  next h =>
    split
    · exact ⟨Iff.rfl, by simp [Channel.debounceSound]⟩
    · exact ⟨Iff.rfl, by simp [Channel.debounceSound, h]⟩

/-- The detect unit brings the channels that it goes through into agreement with their presence (R134, R142). -/
theorem foldl_debounce_chansSound (cs : List Chan) {s : State} (hs : ∀ c, (s.chan c).sound)
    (hd : ∀ c, c ∉ cs → (s.chan c).debounceSound) : (cs.foldl (fun t c => debounce c t) s).chansSound := by
  induction cs generalizing s with
  | nil => exact fun c => ⟨hs c, hd c List.not_mem_nil⟩
  | cons c cs ih =>
    refine ih (s := debounce c s) (fun d => ?_) fun d hd' => ?_
    · rw [debounce_chan]
      split
      · exact (Channel.debounced_sound _ _).1.mpr (hs c)
      · exact hs d
    · rw [debounce_chan]
      split
      · exact (Channel.debounced_sound _ _).2
      next hne => exact hd d (by simp [Ne.symm hne, hd'])

theorem bootArbiter_chan (s : State) (c : Chan) : (bootArbiter s).chan c = (s.chan c).started := Vector.getElem_ofFn _

theorem Channel.started_sound (ch : Channel) : ch.started.sound := by
  simp [Channel.sound, Channel.started, Channel.atReset]

theorem mem_allChans (c : Chan) : c ∈ allChans := by
  revert c
  decide

theorem bootDetect_chansSound (s : State) : (bootDetect (bootArbiter s)).chansSound := by
  refine foldl_debounce_chansSound _ (fun c => bootArbiter_chan s c ▸ Channel.started_sound _) fun c hc => ?_
  have hdet : ((bootArbiter s).chan c).det = false := by
    rw [Bool.eq_false_iff]
    intro ht
    exact hc (List.mem_filter.mpr ⟨mem_allChans c, ht⟩)
  rw [bootArbiter_chan] at hdet ⊢
  simp only [Channel.started, Channel.atReset] at hdet
  simp [Channel.debounceSound, Channel.started, Channel.atReset, hdet]

theorem Channel.atReset_sound (pg flt det : Bool) :
    (Channel.atReset pg flt det).sound ∧ (Channel.atReset pg flt det).debounceSound := by
  simp [Channel.sound, Channel.debounceSound, Channel.atReset]

theorem resetState_chan (phase : PowerPhase) (s : State) (c : Chan) :
    (resetState phase s).chan c = Channel.atReset (s.chan c).pgLine (s.chan c).fltLine (s.chan c).detLine :=
  Vector.getElem_ofFn _

theorem Timer.tick_stopped (x : Timer) : x.tick = .stopped ↔ x = .stopped := by cases x <;> simp [Timer.tick]

theorem DischargeTimer.tick_iff (x : DischargeTimer) :
    (x.tick = .stopped ↔ x = .stopped) ∧ (x.tick = .expired ↔ x = .expired) := by
  cases x <;> simp [DischargeTimer.tick]

theorem Channel.tick_sound (ch : Channel) : (ch.tick.sound ↔ ch.sound) ∧ (ch.tick.debounceSound ↔ ch.debounceSound) := by
  simp [Channel.sound, Channel.debounceSound, Channel.tick, Timer.tick_stopped, (DischargeTimer.tick_iff _).1,
    (DischargeTimer.tick_iff _).2]

theorem tick_chan (s : State) (c : Chan) : (tick s).chan c = (s.chan c).tick := Vector.getElem_ofFn _

/-! ## Every command -/

/-- From one state to the other the notice FIFO and the channels are kept sound, each for itself, and the commands that wait stay. -/
structure Kept (s t : State) : Prop where
  pending_eq : t.pending = s.pending
  fifo : s.fifoSound → t.fifoSound
  chans : s.chansSound → t.chansSound

namespace Kept

variable {s t u : State}

theorem of_served (h : Served s t) : Kept s t := ⟨h.pending_eq, h.fifoSound, h.chans⟩

theorem trans (h : Kept s t) (k : Kept t u) : Kept s u := ⟨k.pending_eq.trans h.pending_eq, k.fifo ∘ h.fifo, k.chans ∘ h.chans⟩

theorem chansSound_of_eq (h : t.chans = s.chans) (hs : s.chansSound) : t.chansSound := by
  intro c
  have hc : t.chan c = s.chan c := by rw [State.chan, State.chan, h]
  exact hc ▸ hs c

theorem of_eq (hp : t.pending = s.pending) (hf : t.fifo = s.fifo) (hc : t.cursor = s.cursor) (h : t.chans = s.chans) : Kept s t :=
  ⟨hp, fifoSound_of_eq hf hc, chansSound_of_eq h⟩

theorem refl (s : State) : Kept s s := of_eq rfl rfl rfl rfl

theorem then_served (h : Kept s t) (k : Served t u) : Kept s u := h.trans (.of_served k)

theorem then_eq (h : Kept s t) (hp : u.pending = t.pending) (hf : u.fifo = t.fifo) (hc : u.cursor = t.cursor)
    (k : u.chans = t.chans) : Kept s u := h.trans (.of_eq hp hf hc k)

theorem foldl {α : Type} {f : State → α → State} (h : Kept s t) (hf : ∀ s x, Served s (f s x)) (xs : List α) :
    Kept s (xs.foldl f t) := h.then_served (.foldl hf xs t)

/-- Being kept from a state on is a property that the mailbox does not bear on. -/
theorem robust (s : State) : Robust (Kept s) :=
  ⟨fun t i h => h.then_served (.consume t i), fun _ _ h => h.then_eq rfl rfl rfl rfl, fun _ _ h => h.then_eq rfl rfl rfl rfl,
    fun _ h => h.then_eq rfl rfl rfl rfl⟩

theorem resetState (phase : PowerPhase) {s t : State} (h : t.pending = s.pending) : Kept s (resetState phase t) :=
  ⟨h, fun _ => ⟨Nat.zero_le _, nofun, fun _ => rfl⟩, fun _ c => resetState_chan phase t c ▸ Channel.atReset_sound _ _ _⟩

theorem noteMode (h : Kept s t) (m : Mode) : Kept s (noteMode m t) := h.then_served (noteMode_served m t)

/-- A selection chooses a load; the FIFO and the channels are apart from it. -/
theorem select (h : Kept s t) : Kept s (select t) := by
  obtain ⟨_, _, _, _, e⟩ := select_changes t
  rw [e]
  exact h.then_eq rfl rfl rfl rfl

theorem halt (h : Kept s t) : Kept s (halt t) := by
  unfold Machine.halt
  dsimp only
  split
  · exact h
  · split
    · exact h.then_eq rfl rfl rfl rfl
    · refine Kept.then_served ?_ (.handOver _ _)
      exact h.then_eq rfl rfl rfl rfl

theorem recomputeCeiling (h : Kept s t) : Kept s (recomputeCeiling t) := by
  have hceiling : Kept s { t with ceiling := t.ceilingNow } := h.then_eq rfl rfl rfl rfl
  unfold Machine.recomputeCeiling
  dsimp only
  split
  · exact h
  · split
    · exact (hceiling.then_served (shedDown_served 12 _)).noteMode _
    · exact (hceiling.noteMode _).then_served (grantPass_served _)

end Kept

theorem takeStandby_kept (s : State) : Kept s (takeStandby s) := by
  have hset : Kept s (noteMode s.mode (setStby true s)) := (Kept.of_eq rfl rfl rfl rfl : Kept s (setStby true s)).noteMode _
  unfold takeStandby
  dsimp only
  split
  · exact .refl s
  · split
    · exact hset
    · exact hset.select

theorem replayLoad_served (s : State) (l : Load) : Served s (replayLoad s l) :=
  (judge_served .wake l s).trans (Aside.noteRefusal l _).toServed

theorem takeWake_kept (s : State) : Kept s (takeWake s) := by
  have hset : Kept s (noteMode s.mode (setStby false s)) := (Kept.of_eq rfl rfl rfl rfl : Kept s (setStby false s)).noteMode _
  unfold takeWake
  dsimp only
  split
  · exact .refl s
  · have hended : Kept s { noteMode s.mode (setStby false s) with descent := .inactive } := hset.then_eq rfl rfl rfl rfl
    refine Kept.then_served ?_ (grantPass_served _)
    exact (hended.foldl replayLoad_served s.resume.reverse).then_eq rfl rfl rfl rfl

theorem takeLowsup_kept (b : Bool) (s : State) : Kept s (takeLowsup b s) := by
  unfold takeLowsup
  split
  · exact (Kept.of_eq rfl rfl rfl rfl : Kept s { s with lowsup := s.lowsup.took b }).recomputeCeiling
  · exact .refl s

theorem setBudget_kept (s : State) : Kept s (setBudget s).2 := by
  unfold setBudget
  split
  · exact .refl s
  · exact (Kept.of_eq rfl rfl rfl rfl :
      Kept s { s with config := { s.config with full := argFull s, reduced := argReduced s } }).recomputeCeiling

theorem setOvertake_kept (s : State) : Kept s (setOvertake s).2 := by
  unfold setOvertake
  split
  · exact .refl s
  · exact (Kept.of_eq rfl rfl rfl rfl :
      Kept s { s with config := { s.config with overtake := s.argCopy[0].toNat } }).then_served (grantPass_served _)

theorem resumeService_kept (s : State) : Kept s (resumeService s).2 := by
  unfold resumeService
  split
  · dsimp only
    have hsettled : Kept s (settleFor resumeWaits s) := .of_served (settleFor_served _ s)
    generalize settleFor resumeWaits s = u at hsettled
    have hnoted : Kept s (noteMode u.mode { u with halted := false }) :=
      (hsettled.then_eq (u := { u with halted := false }) rfl rfl rfl rfl).noteMode _
    refine Kept.foldl (Kept.then_served ?_ (grantPass_served _)) (fun t c => (represent_aside .resume t c).toServed) allChans
    split
    · exact hnoted.select
    · exact hnoted
  · exact .refl s

theorem clearFaults_served (cs : List Chan) (s : State) : Served s (clearFaults cs s) :=
  .foldl (f := fun t c => t.setChan c { t.chan c with lastFault := none }) (fun _ _ => .setChan fun hs hd => ⟨hs, hd⟩) cs s

theorem clearLoad_served (l : Load) (s : State) : Served s (clearLoad l s).2 := by
  unfold clearLoad
  split
  case h_1 =>
    exact (settleFor_served _ s).trans ((enterIdle_served l _).trans ((clearFaults_served _ _).trans (representLoad_aside l _).toServed))
  all_goals exact .refl s

theorem declareOff_served (s : State) : Served s (declareOff s).2 := by
  unfold declareOff
  split
  · exact (channelDeclareOff_aside _ s).toServed
  · exact .refl s

theorem setSlot_kept (s : State) (id : SlotId) (x : Slot) : Kept s (s.setSlot id x) := by
  cases id <;> exact .of_eq rfl rfl rfl rfl

theorem completeLong_kept (r : ResultCode) (s : State) : Kept s (completeLong r (showSlots s)) := .of_eq rfl rfl rfl rfl

theorem endSave_kept (matched : Bool) (s : State) : Kept s (endSave matched s) := by
  have hactive (t : State) (id : SlotId) : Kept t { t with active := some id } := .of_eq rfl rfl rfl rfl
  unfold endSave
  split
  · dsimp only
    split
    · exact (setSlot_kept s _ _).trans ((hactive _ _).trans (completeLong_kept _ _))
    · exact (setSlot_kept s _ _).trans (completeLong_kept _ _)
  all_goals exact .refl s

theorem endErase_kept (s : State) : Kept s (endErase s) := by
  unfold endErase
  split
  · exact .of_eq rfl rfl rfl rfl
  all_goals exact .refl s

theorem endRevert_kept (s : State) : Kept s (endRevert s) := by
  have hreloaded (t : State) : Kept t (reloadConfig t) := .of_eq rfl rfl rfl rfl
  unfold endRevert
  split
  · dsimp only
    have hsettled (p q : Instr → DetectSource → Bool) : Kept s (settleFor q (settleFor p s)) :=
      .of_served ((settleFor_served p s).trans (settleFor_served q _))
    exact ((hsettled _ _).trans ((hreloaded _).trans (completeLong_kept _ _))).foldl (fun t c => (represent_aside .revert t c).toServed) _
  all_goals exact .refl s

theorem endBoot_kept (s : State) : Kept s (endBoot s) := by
  have hstored : Kept s (bootStore s) :=
    (Kept.of_eq rfl rfl rfl rfl : Kept s (showSlots { s with
      config := bootImage s (bootSource s), active := bootActive (bootSource s) })).then_served (.handOver _ _)
  have hready (t : State) (is : List Instr) : Kept t ({ t with unit := .ready }.postAll is) := .of_eq rfl rfl rfl rfl
  have harbiter (t : State) (h : t.fifoSound) : (bootArbiter t).fifoSound := fifoSound_of_eq (s := t) rfl rfl h
  have hdetect (t : State) : Served t (bootDetect t) := by
    refine .foldl (fun u c => ?_) _ t
    have := (debounce_setChan_aside (c := c) (x := u.chan c) (s := u) id).toServed
    rwa [State.setChan_self] at this
  have hpending (t : State) : (bootArbiter t).pending = t.pending := rfl
  refine ⟨?_, fun h => (hready _ _).fifo ((hdetect _).fifoSound (harbiter _ (hstored.fifo h))),
    fun _ => (hready _ _).chans (bootDetect_chansSound _)⟩
  exact (hready _ _).pending_eq.trans ((hdetect _).pending_eq.trans ((hpending _).trans hstored.pending_eq))

theorem writeControl_kept (v : Byte) (s : State) : Kept s (writeControl v s) := by
  have hstored : Kept s { s with nie := v.getLsbD 0, die := v.getLsbD 1 } := .of_eq rfl rfl rfl rfl
  unfold writeControl
  dsimp only
  split
  · exact hstored.halt
  · exact hstored

theorem writePlain_kept (r : Register) (v : Byte) (s : State) : Kept s (writePlain r v s) := by
  cases r <;> exact .of_eq rfl rfl rfl rfl

/-! ## Writes of the membership -/

/-- The record of a load that has entered IDLE, ABSORBED or VOID (R5, R6). -/
def LoadRun.fresh (st : LoadState) : LoadRun := { state := st, attempts := 0, cooling := .stopped, stable := .stopped }

/-- A load table is the table of its loads. -/
theorem State.loads_eq_ofFn {s : State} {f : Load → LoadRun} (h : ∀ x, s.load x = f x) : s.loads = Vector.ofFn f :=
  Vector.ext fun i hi => (h ⟨i, hi⟩).trans (Vector.getElem_ofFn hi).symm

theorem State.load_ofFn (s : State) (f : Load → LoadRun) (x : Load) : ({ s with loads := Vector.ofFn f } : State).load x = f x :=
  Vector.getElem_ofFn x.isLt

theorem State.setLoad_eq_ofFn (s : State) (l : Load) (r : LoadRun) :
    s.setLoad l r = { s with loads := Vector.ofFn fun x => if x = l then r else s.load x } := by
  have hloads := State.loads_eq_ofFn (s := s.setLoad l r) fun x =>
    (State.setLoad_load s l x r).trans (if_congr eq_comm rfl rfl)
  exact congrArg (fun ls => ({ s with loads := ls } : State)) hloads

/-- Two states that differ in the load table at most, and in no load, are the same. -/
theorem State.eq_of_load {u v : State} (hu : u = { v with loads := u.loads }) (h : ∀ x, u.load x = v.load x) : u = v := by
  have hloads : u.loads = v.loads := Vector.ext fun i hi => h ⟨i, hi⟩
  rw [hu, hloads]

theorem enterIdle_load (l : Load) (s : State) (x : Load) :
    (enterIdle l s).load x = if x = l then .fresh .idle else s.load x := by
  rw [enterIdle_eq, State.setLoad_load]
  exact if_congr eq_comm rfl rfl

theorem withdraw_load (l : Load) (st : LoadState) (s : State) (x : Load) :
    (withdraw l st s).load x = if x = l then .fresh st else s.load x := by
  have hset : (withdraw l st s).load x = (s.setLoad l ((s.load l).withdrawn st)).load x := rfl
  rw [hset, State.setLoad_load]
  exact if_congr eq_comm rfl rfl

theorem setGroupConfig_load (g : Group) (r : GroupConfig) (s : State) (x : Load) :
    (setGroupConfig g r s).load x = s.load x := rfl

/-- The own loads of some channels enter IDLE. -/
theorem foldl_enterIdle_eq (cs : List Chan) (s : State) :
    cs.foldl (fun u c => enterIdle (ownLoad c) u) s =
      { s with loads := Vector.ofFn fun x => if ∃ d ∈ cs, x = ownLoad d then LoadRun.fresh .idle else s.load x } := by
  induction cs generalizing s with
  | nil =>
    have hloads : s.loads = Vector.ofFn s.load := State.loads_eq_ofFn fun _ => rfl
    simp [← hloads]
  | cons c cs ih =>
    rw [List.foldl_cons, ih]
    refine congrArg (fun f => ({ s with loads := Vector.ofFn f } : State)) (funext fun x => ?_)
    rw [enterIdle_eq, State.setLoad_load]
    by_cases hx : x = ownLoad c
    · simp [hx, LoadRun.fresh]
    · simp [hx, Ne.symm hx]

/-- The loads after a channel has been written into a slot (R5, R63). -/
def joinedLoad (s : State) (g : Group) (k : Slot8) (c : Chan) (x : Load) : LoadRun :=
  if x = ownLoad c then .fresh .absorbed
  else if (s.config.groups[g]).members[k.val]?.map ownLoad = some x then .fresh .idle
  else if x = groupLoad g ∧ (s.load x).state = .void then .fresh .idle
  else s.load x

/-- The part after a channel has been written into a slot, before the re-presentation of a new lead (R5, R63). -/
def joined (s : State) (g : Group) (k : Slot8) (c : Chan) : State :=
  let r := s.config.groups[g]
  { setGroupConfig g { r with
      members := if k.val < r.members.length then r.members.set k.val c else r.members ++ [c] } s with
    loads := Vector.ofFn (joinedLoad s g k c)
    resume := s.resume.filter (· != ownLoad c) }

theorem groupLoad_ne_ownLoad (g : Group) (c : Chan) : groupLoad g ≠ ownLoad c := by
  simp only [groupLoad, ownLoad, ne_eq, Fin.mk.injEq]
  omega

theorem ownLoad_inj {c d : Chan} : ownLoad c = ownLoad d ↔ c = d := by simp [ownLoad, Fin.ext_iff]

theorem writeMember_eq {g : Group} {k : Slot8} {c : Chan} {s : State} (h : (s.config.groups[g]).members[k.val]? ≠ some c) :
    writeMember g k c s = if k.val = 0 then represent .asked (joined s g k c) c else joined s g k c := by
  have hown (d : Chan) : groupLoad g ≠ ownLoad d := groupLoad_ne_ownLoad g d
  have hold (d : Chan) (hd : (s.config.groups[g]).members[k.val]? = some d) : ownLoad c ≠ ownLoad d := by
    rintro heq
    exact h (ownLoad_inj.mp heq ▸ hd)
  unfold writeMember joined
  dsimp only
  rw [if_neg h]
  generalize (if k.val < (s.config.groups[g]).members.length then (s.config.groups[g]).members.set k.val c
    else (s.config.groups[g]).members ++ [c]) = ms
  refine congrArg (fun t => if k.val = 0 then represent .asked t c else t) ?_
  refine State.eq_of_load ?_ fun x => ?_
  · cases (s.config.groups[g]).members[k.val]? <;> dsimp only <;> split <;> rfl
  · refine Eq.trans ?_ (Vector.getElem_ofFn x.isLt).symm
    unfold joinedLoad
    rw [apply_ite (State.load · x)]
    cases hk : (s.config.groups[g]).members[k.val]? with
    | none =>
      simp only [enterIdle_load, withdraw_load, setGroupConfig_load, if_neg (hown c)]
      by_cases hc : x = ownLoad c
      · simp [hc, (hown c).symm]
      · by_cases hg : x = groupLoad g <;> simp [hc, hg, hown]
    | some d =>
      simp only [enterIdle_load, withdraw_load, setGroupConfig_load, if_neg (hown _)]
      by_cases hc : x = ownLoad c
      · simp [hc, (hown c).symm]
      · by_cases hd : x = ownLoad d
        · simp [hd, (hown d).symm, (hold d hk).symm]
        · by_cases hg : x = groupLoad g <;> simp [hc, hd, hg, hown, eq_comm]

/-- The part after none has been written into a slot that holds a member (R5, R64). -/
def truncated (s : State) (g : Group) (k : Slot8) : State :=
  let r := s.config.groups[g]
  { setGroupConfig g { r with members := r.members.take k.val } s with
    loads := Vector.ofFn fun x =>
      if k.val = 0 ∧ x = groupLoad g then .fresh .void
      else if ∃ d ∈ r.members.drop k.val, x = ownLoad d then .fresh .idle
      else s.load x
    resume := if k.val = 0 then s.resume.filter (· != groupLoad g) else s.resume }

theorem truncateMembers_eq {g : Group} {k : Slot8} {s : State} (h : k.val < (s.config.groups[g]).members.length) :
    truncateMembers g k s = truncated s g k := by
  unfold truncateMembers truncated
  dsimp only
  rw [if_neg (Nat.not_le.mpr h), foldl_enterIdle_eq]
  by_cases hk : k.val = 0
  · simp only [hk, true_and, if_true]
    refine State.eq_of_load rfl fun x => ?_
    rw [withdraw_load]
    refine Eq.trans ?_ (Vector.getElem_ofFn x.isLt).symm
    exact if_congr Iff.rfl rfl (Vector.getElem_ofFn x.isLt)
  · simp only [hk, false_and, if_false]
    rfl

theorem applyWrite_kept (loc : Location) (v : Byte) (s : State) : Kept s (applyWrite loc v s) := by
  have hconfig (cfg : Image) : Kept s { s with config := cfg } := .of_eq rfl rfl rfl rfl
  cases loc with
  | chan c f =>
    cases f with
    | detect =>
      simp only [applyWrite, writeChan]
      split
      · exact (hconfig _).then_served (represent_aside .asked _ c).toServed
      · exact hconfig _
    | _ => exact hconfig _
  | load l f => cases f <;> exact hconfig _
  | slot g k =>
    simp only [applyWrite]
    split
    next c _ =>
      have hjoined : Kept s (joined s g k c) := .of_eq rfl rfl rfl rfl
      by_cases hsame : (s.config.groups[g]).members[k.val]? = some c
      · simp only [writeMember, hsame, if_true]
        exact .refl s
      · rw [writeMember_eq hsame]
        split
        · exact hjoined.then_served (represent_aside .asked _ c).toServed
        · exact hjoined
    next =>
      by_cases hlen : k.val < (s.config.groups[g]).members.length
      · rw [truncateMembers_eq hlen]
        exact .of_eq rfl rfl rfl rfl
      · simp only [truncateMembers, Nat.not_lt.mp hlen, if_true]
        exact .refl s
  | wrej =>
    simp only [applyWrite]
    split <;> exact .of_eq rfl rfl rfl rfl
  | _ => exact hconfig _

theorem settleForWrite_served (v : Byte) (s : State) : Served s (settleForWrite v s) := by
  unfold settleForWrite
  dsimp only
  split
  · exact settleFor_served _ s
  · exact .refl s

theorem writeData_kept (v : Byte) (s : State) : Kept s (writeData v s) := by
  have hsettled : Kept s (settleForWrite v s) := .of_served (settleForWrite_served v s)
  unfold writeData
  dsimp only
  split
  · exact hsettled.then_eq rfl rfl rfl rfl
  · exact (hsettled.trans (applyWrite_kept _ v _)).then_eq rfl rfl rfl rfl

theorem spoil_pending (id : SlotId) (well : Bool) (s : State) : (spoil id well s).pending = s.pending := by cases id <;> rfl

theorem abandonStore_pending (reached : StoreProgress) (s : State) : (abandonStore reached s).pending = s.pending := by
  unfold abandonStore
  split
  case h_1 target _ _ =>
    unfold abandonSave
    split
    case h_7 => cases target <;> rfl
    all_goals exact spoil_pending _ _ s
  case h_2 =>
    unfold abandonErase
    split <;> rfl
  all_goals rfl

theorem tick_kept (s : State) : Kept s (tick s) :=
  ⟨rfl, fifoSound_of_eq rfl rfl, fun hs c => by
    rw [tick_chan, (Channel.tick_sound _).1, (Channel.tick_sound _).2]
    exact hs c⟩

/-- Every command keeps the FIFO within its places and the channels in agreement. -/
theorem exec_kept {i : Instr} {s t : State} (h : exec i s = .next t) : Kept s t := by
  have hP : Robust (Kept s) := Kept.robust s
  have hs : Kept s s := .refl s
  have hlong (u : State) (code : Byte) (op : LongOp) (hu : Kept s (u.taken code)) :
      Kept s { u.taken code with unit := .executing op } := hu.then_eq rfl rfl rfl rfl
  cases i with
  | request => exact hP.immediate (fun _ => Robust.onLoad fun l hu => hu.then_served (request_served .host l _)) h hs
  | release => exact hP.immediate (fun _ => Robust.onLoad fun l hu => hu.then_served (releaseLoad_served l _)) h hs
  | clear => exact hP.immediate (fun _ => Robust.onLoad fun l hu => hu.then_served (clearLoad_served l _)) h hs
  | declareOff => exact hP.immediate (fun _ hu => hu.then_served (declareOff_served _)) h hs
  | setBudget => exact hP.immediate (fun _ hu => hu.trans (setBudget_kept _)) h hs
  | setOvertake => exact hP.immediate (fun _ hu => hu.trans (setOvertake_kept _)) h hs
  | resume => exact hP.immediate (fun _ hu => hu.trans (resumeService_kept _)) h hs
  | snapshot => exact hP.immediate (fun _ hu => hu.then_eq rfl rfl rfl rfl) h hs
  | unknown code => exact hP.immediate (fun _ hu => hu) h hs
  | saveProfile => exact hP.longCommand (fun _ hu op _ => hlong s _ op hu) h hs
  | eraseProfiles => exact hP.longCommand (start := fun _ => .inr .erase) (fun _ hu op _ => hlong s _ op hu) h hs
  | revert => exact hP.longCommand (fun _ hu op _ => hlong s _ op hu) h hs
  | saveProfileCompletion matched => exact hP.takeEvent (fun _ hu => hu.trans (endSave_kept matched _)) h hs
  | eraseProfilesCompletion => exact hP.takeEvent (fun _ hu => hu.trans (endErase_kept _)) h hs
  | revertCompletion => exact hP.takeEvent (fun _ hu => hu.trans (endRevert_kept _)) h hs
  | haltRequest v | nieDieWrite v => exact Robust.strobe (fun _ hu => hu.trans (writeControl_kept v _)) h hs
  | statusOverrunClear v =>
    simp only [exec, execStatusOverrunClear] at h
    refine Robust.strobe (fun _ hu => ?_) h hs
    split
    · exact hu.then_eq rfl rfl rfl rfl
    · exact hu
  | registerWrite r v => exact Robust.strobe (fun _ hu => hu.trans (writePlain_kept r v _)) h hs
  | resultRead | dataRead | clockLoRead =>
    simp only [exec, execResultRead, execDataRead, execClockLoRead] at h
    exact Robust.strobe (fun _ hu => hu.then_eq rfl rfl rfl rfl) h hs
  | noticeCursorWrite v =>
    simp only [exec, execNoticeCursorWrite] at h
    refine Robust.strobe (P := Kept s) (fun _ hu => hu.trans ⟨rfl, fun hf => ?_, Kept.chansSound_of_eq rfl⟩) h hs
    obtain ⟨hlen, hfull, -⟩ := hf
    exact ⟨hlen, hfull, fun _ => rfl⟩
  | dataWrite v => exact Robust.strobe (fun _ hu => hu.trans (writeData_kept v _)) h hs
  | noticeRead =>
    simp only [exec, execNoticeRead] at h
    obtain ⟨_, _, _, e⟩ := readNotice_changes s
    refine Robust.strobe (P := Kept s) (fun _ hu => hu.trans ⟨?_, readNotice_fifoSound, Kept.chansSound_of_eq ?_⟩) h hs <;> rw [e]
  | clockTick =>
    cases h
    split
    · exact tick_kept s
    · exact hs
  | powerOnReset | powerLoss =>
    cases h
    exact .resetState _ (abandonStore_pending _ s)
  | pinReset =>
    cases h
    split
    · exact .resetState _ (abandonStore_pending _ s)
    all_goals exact hs
  | resetRelease =>
    cases h
    split
    · exact .of_eq rfl rfl rfl rfl
    all_goals exact hs
  | bootLoadEnd =>
    cases h
    split
    · exact endBoot_kept s
    · exact hs
  | pgLineChange c high | fltNLineChange c high | detLineChange c high =>
    cases h
    exact .of_served (.setChan fun hs hd => ⟨hs, hd⟩)
  | stbyLineChange | lowsupLineChange =>
    cases h
    exact .of_eq rfl rfl rfl rfl
  | pgRise c => exact hP.takeEvent (fun _ hu => hu.then_served (channelPgRise_aside c _).toServed) h hs
  | pgFall c => exact hP.takeEvent (fun _ hu => hu.then_served (channelPgFall_aside c _).toServed) h hs
  | fltNAsserted c => exact hP.takeEvent (fun _ hu => hu.then_served (channelFltAsserted_aside c _).toServed) h hs
  | fltNDeasserted c => exact hP.takeEvent (fun _ hu => hu.then_served (channelFltDeasserted_aside c _).toServed) h hs
  | rampTimerExpiry c => exact hP.takeEvent (fun _ hu => hu.then_served (channelRampExpiry_aside c _).toServed) h hs
  | dischargeTimerExpiry c => exact hP.takeEvent (fun _ hu => hu.then_served (channelDischargeExpiry_aside c _).toServed) h hs
  | staggerTimerExpiry l => exact hP.takeEvent (fun _ hu => hu.then_served (takeStaggerExpiry_aside l _).toServed) h hs
  | grantPass => exact hP.takeEvent (fun _ hu => hu.then_served (grantPass_served _)) h hs
  | coolDownExpiry l => exact hP.takeEvent (fun _ hu => hu.then_served (takeCoolDownExpiry_served l _)) h hs
  | stableTimerExpiry l => exact hP.takeEvent (fun _ hu => hu.then_served (takeStableExpiry_served l _)) h hs
  | lowsupFilterChange b => exact hP.takeEvent (fun _ hu => hu.trans (takeLowsup_kept b _)) h hs
  | standbyEvent => exact hP.takeEvent (fun _ hu => hu.trans (takeStandby_kept _)) h hs
  | wakeEvent => exact hP.takeEvent (fun _ hu => hu.trans (takeWake_kept _)) h hs
  | spacingTimerExpiry => exact hP.takeEvent (fun _ hu => hu.then_served (takeSpacingExpiry_served _)) h hs
  | detFilterChange c high => exact hP.takeEvent (fun _ hu => hu.then_served (takeDetFilter_aside c high _).toServed) h hs
  | debounceTimerExpiry c => exact hP.takeEvent (fun _ hu => hu.then_served (takeDebounceExpiry_aside c _).toServed) h hs
  | noticeHandover n => exact hP.takeEvent (fun _ hu => hu.then_served (.handOver n _)) h hs
  | startRamp | waitTurn | fall | cancelTurn | grantHandover | orderlyDescentOrder | tripOrder | returnReport | cancelDrain
  | channelOn | fallComplete | loadUp | descentEnded | drainEnded | faultReport | autoRequest | autoRelease | bootRequest =>
    exact .of_served (takeInOrder_served h)

/-- What every command keeps, and dropping the command that was taken from the queue, every step keeps. -/
theorem step_keeps {P : State → Prop} (hp : ∀ s rest, P s → P { s with pending := rest })
    (he : ∀ i s t, exec i s = .next t → P s → P t) {s t : State} (h : step s = .next t) (hs : P s) : P t := by
  unfold step at h
  split at h
  next rest _ => exact he _ _ _ h (hp s rest hs)
  next =>
    split at h
    · exact he _ _ _ h hs
    · cases h
      exact hs

/-- Settles O6: no command stores beyond the sixteen places. -/
theorem everyStepKeepsTheFifo : Obligations.EveryStepKeepsTheFifo := by
  unfold Obligations.EveryStepKeepsTheFifo
  intro s t hs h
  exact step_keeps (fun _ _ => id) (fun _ _ _ h => (exec_kept h).fifo) h hs

/-- Settles O7: no command breaks the agreement of a channel's record. -/
theorem everyStepKeepsTheChannels : Obligations.EveryStepKeepsTheChannels := by
  unfold Obligations.EveryStepKeepsTheChannels
  intro s t hs h
  exact step_keeps (P := State.chansSound) (fun _ _ => id) (fun _ _ _ h => (exec_kept h).chans) h hs

end Sys2Proof.Machine
end

section
/-! Every command keeps the standby descent and the resume list in agreement with the facet, HALTED and the boot load (R116, R121,
R132). -/

namespace Sys2Proof.Machine

/-- The standby descent and the resume list agree with the facet, with HALTED and with the boot load. -/
structure State.StandbySound (s : State) : Prop where
  descent : s.descentSound
  resume : s.resumeSound
  start : s.standbyStartSound

namespace State.StandbySound

variable {s t : State}

/-- The facet, HALTED and the descent stay, and loads do no more than leave the resume list. -/
theorem of_sublist (h : s.StandbySound) (hfacet : t.stby.filtered = s.stby.filtered) (hhalted : t.halted = s.halted)
    (hrun : t.running = s.running) (hdescent : t.descent = .inactive ↔ s.descent = .inactive)
    (hresume : t.resume.Sublist s.resume) : t.StandbySound := by
  obtain ⟨hd, ⟨hnodup, hnil⟩, hstart⟩ := h
  refine ⟨?_, ⟨hnodup.sublist hresume, fun hoff => ?_⟩, fun hidle => ?_⟩
  · unfold State.descentSound State.standbyFacet
    rw [hdescent, hfacet, hhalted]
    exact hd
  · unfold State.standbyFacet at hoff
    rw [hfacet, hhalted] at hoff
    exact List.sublist_nil.mp (hnil hoff ▸ hresume)
  · obtain ⟨hf, hr, hi⟩ := hstart (hrun ▸ hidle)
    exact ⟨hfacet.trans hf, List.sublist_nil.mp (hr ▸ hresume), hdescent.mpr hi⟩

theorem of_eq (h : s.StandbySound) (hfacet : t.stby.filtered = s.stby.filtered) (hhalted : t.halted = s.halted)
    (hrun : t.running = s.running) (hdescent : t.descent = s.descent) (hresume : t.resume = s.resume) : t.StandbySound :=
  of_sublist h hfacet hhalted hrun (by rw [hdescent]) (hresume ▸ List.Sublist.refl _)

theorem of_served (h : Served s t) (hs : s.StandbySound) : t.StandbySound := by
  obtain ⟨hd, ⟨hnodup, hnil⟩, hstart⟩ := hs
  have hdescent : t.descentSound := by
    unfold State.descentSound State.standbyFacet
    rw [h.descent, h.stby_eq, h.halted_eq]
    exact hd
  refine ⟨hdescent, ⟨h.resume_nodup hnodup, fun hoff => ?_⟩, fun hidle => ?_⟩
  · unfold State.standbyFacet at hoff
    rw [h.stby_eq, h.halted_eq] at hoff
    exact h.resume_nil (hd.mpr hoff) (hnil hoff)
  · obtain ⟨hf, hr, hi⟩ := hstart (h.running_eq ▸ hidle)
    exact ⟨h.stby_eq ▸ hf, h.resume_nil hi hr, h.descent.mpr hi⟩

theorem robust : Robust State.StandbySound :=
  ⟨fun _ i => of_served (.consume _ i), fun _ _ h => h.of_eq rfl rfl rfl rfl rfl,
    fun _ _ h => h.of_eq rfl rfl rfl rfl rfl, fun _ h => h.of_eq rfl rfl rfl rfl rfl⟩

/-- A part whose facet is on and that is not HALTED begins its descent (R115, R128). -/
theorem of_select (hfacet : s.stby.filtered = true) (hhalted : s.halted = false) (hrun : s.running = true)
    (hresume : s.resume.Nodup) : (select s).StandbySound := by
  have hsought : (select { s with descent := .seeking }).StandbySound :=
    of_served (s := { s with descent := .seeking }) (select_served nofun)
      ⟨by simp [State.descentSound, State.standbyFacet, hfacet, hhalted],
        ⟨hresume, by simp [State.standbyFacet, hfacet, hhalted]⟩, fun hidle => absurd (hrun.symm.trans hidle) nofun⟩
  have hsame : select { s with descent := .seeking } = select s := rfl
  exact hsame ▸ hsought

theorem halt (h : s.StandbySound) : (halt s).StandbySound := by
  unfold Machine.halt
  dsimp only
  split
  · exact h
  · have hdown {t : State} (hf : t.stby.filtered = s.stby.filtered) (hr : t.running = s.running) (hh : t.halted = true)
        (hd : t.descent = .inactive) (hn : t.resume = []) : t.StandbySound := by
      refine ⟨by simp [State.descentSound, hd, hh], ⟨hn ▸ List.nodup_nil, fun _ => hn⟩, fun hidle => ⟨?_, hn, hd⟩⟩
      exact hf.trans (h.start (hr ▸ hidle)).1
    split
    · exact hdown rfl rfl rfl rfl rfl
    · refine of_served (.handOver _ _) ?_
      exact hdown rfl rfl rfl rfl rfl

theorem recomputeCeiling (h : s.StandbySound) : (recomputeCeiling s).StandbySound := by
  obtain ⟨_, _, _, _, _, e⟩ := recomputeCeiling_changes s
  rw [e]
  exact h.of_eq rfl rfl rfl rfl rfl

end State.StandbySound

/-- A selection reads the resume list and the facet of what is noted in between as they were. -/
theorem takeStandby_standbySound {s : State} (hrun : s.running = true) (h : s.StandbySound) : (takeStandby s).StandbySound := by
  unfold takeStandby
  dsimp only
  split
  · exact h
  · rw [noteMode_eq]
    split
    next hhalted =>
      have hhalted : s.halted = true := hhalted
      have hinactive : s.descent = .inactive := h.descent.mpr (.inr hhalted)
      refine ⟨?_, ⟨h.resume.1, fun _ => h.resume.2 (.inr hhalted)⟩, fun hidle => absurd (hrun.symm.trans hidle) nofun⟩
      exact ⟨fun _ => .inr hhalted, fun _ => hinactive⟩
    next hhalted => exact State.StandbySound.of_select rfl (Bool.eq_false_iff.mpr hhalted) hrun h.resume.1

theorem takeWake_standbySound {s : State} (hrun : s.running = true) (h : s.StandbySound) : (takeWake s).StandbySound := by
  unfold takeWake
  dsimp only
  split
  · exact h
  · have hwoken {u t : State} (hu : u.stby.filtered = false) (hd : u.descent = .inactive) (hr : u.running = true)
        (hserved : Served u t) : State.StandbySound { t with resume := [] } := by
      have hfacet : t.stby.filtered = false := hserved.stby_eq ▸ hu
      have hinactive : t.descent = .inactive := hserved.descent.mpr hd
      refine ⟨?_, ⟨List.nodup_nil, fun _ => rfl⟩, fun hidle => absurd ((hserved.running_eq.trans hr).symm.trans hidle) nofun⟩
      exact ⟨fun _ => .inl hfacet, fun _ => hinactive⟩
    refine .of_served (grantPass_served _) (hwoken ?_ ?_ ?_ (.foldl replayLoad_served _ _))
    · rw [noteMode_eq]
      rfl
    · rfl
    · rw [noteMode_eq]
      exact hrun

theorem resumeService_standbySound {s : State} (hcommands : s.takesCommands) (h : s.StandbySound) :
    (resumeService s).2.StandbySound := by
  unfold resumeService
  split
  next hhalted =>
    dsimp only
    have hserved := settleFor_served resumeWaits s
    have hsettled : (settleFor resumeWaits s).StandbySound := .of_served hserved h
    have hrun : (settleFor resumeWaits s).running = true := by
      rw [hserved.running_eq, running_iff]
      exact ⟨hcommands.1, by rw [hcommands.2]; rfl⟩
    have hhalt : (settleFor resumeWaits s).halted = true := hserved.halted_eq.trans hhalted
    generalize settleFor resumeWaits s = u at hsettled hrun hhalt
    refine .of_served (.foldl (fun t c => (represent_aside .resume t c).toServed) allChans _) (.of_served (grantPass_served _) ?_)
    rw [noteMode_eq]
    split
    next hfacet => exact State.StandbySound.of_select hfacet rfl hrun hsettled.resume.1
    next hfacet =>
      have hinactive : u.descent = .inactive := hsettled.descent.mpr (.inr hhalt)
      refine ⟨?_, ⟨hsettled.resume.1, fun _ => hsettled.resume.2 (.inr hhalt)⟩,
        fun hidle => absurd (hrun.symm.trans hidle) nofun⟩
      exact ⟨fun _ => .inl (Bool.eq_false_iff.mpr hfacet), fun _ => hinactive⟩
  next => exact h

theorem setSlot_standbySound {s : State} (id : SlotId) (x : Slot) (h : s.StandbySound) : (s.setSlot id x).StandbySound := by
  cases id <;> exact h.of_eq rfl rfl rfl rfl rfl

/-- A long command completes: the unit leaves EXECUTING, in a part that runs. -/
theorem completeLong_standbySound {s : State} (r : ResultCode) (hrun : s.running = true) (h : s.StandbySound) :
    (completeLong r (showSlots s)).StandbySound := by
  refine h.of_eq rfl rfl ?_ rfl rfl
  rw [hrun]
  exact (running_iff _).mpr ⟨((running_iff s).mp hrun).1, rfl⟩

theorem setSlot_running (s : State) (id : SlotId) (x : Slot) : (s.setSlot id x).running = s.running := by cases id <;> rfl

theorem endSave_standbySound {s : State} (matched : Bool) (hrun : s.running = true) (h : s.StandbySound) :
    (endSave matched s).StandbySound := by
  unfold endSave
  split
  · dsimp only
    split
    · refine completeLong_standbySound _ ((setSlot_running s _ _).trans hrun) ?_
      exact (setSlot_standbySound _ _ h).of_eq rfl rfl rfl rfl rfl
    · exact completeLong_standbySound _ ((setSlot_running s _ _).trans hrun) (setSlot_standbySound _ _ h)
  all_goals exact h

theorem endErase_standbySound {s : State} (hrun : s.running = true) (h : s.StandbySound) : (endErase s).StandbySound := by
  unfold endErase
  split
  · exact completeLong_standbySound _ (s := { s with slotA := Slot.erased, slotB := Slot.erased, active := none }) hrun
      (h.of_eq rfl rfl rfl rfl rfl)
  all_goals exact h

theorem endRevert_standbySound {s : State} (hrun : s.running = true) (h : s.StandbySound) : (endRevert s).StandbySound := by
  have hreloaded (t : State) (ht : t.StandbySound) : (reloadConfig t).StandbySound :=
    ht.of_sublist rfl rfl rfl Iff.rfl List.filter_sublist
  unfold endRevert
  split
  · dsimp only
    have hserved (p q : Instr → DetectSource → Bool) : Served s (settleFor q (settleFor p s)) :=
      (settleFor_served p s).trans (settleFor_served q _)
    refine .of_served (.foldl (fun t c => (represent_aside .revert t c).toServed) _ _) ?_
    exact completeLong_standbySound _ ((hserved _ _).running_eq.trans hrun) (hreloaded _ (.of_served (hserved _ _) h))
  all_goals exact h

theorem bootDetect_changes (s : State) :
    ∃ cs ps fs xs, bootDetect s = { s with chans := cs, posted := ps, fifo := fs, sources := xs } := by
  refine List.foldlRecOn (motive := fun t => ∃ cs ps fs xs, t =
    ({ s with chans := cs, posted := ps, fifo := fs, sources := xs } : State)) _ _ ⟨_, _, _, _, rfl⟩ fun t ht c _ => ?_
  obtain ⟨_, _, _, _, rfl⟩ := ht
  obtain ⟨_, _, _, _, h⟩ := debounce_changes c _
  exact ⟨_, _, _, _, h⟩

/-- The boot load ends with the descent seeking where STBY is asserted, unless the arbiter is HALTED (R191). -/
theorem endBoot_standbySound {s : State} (hidle : s.running = false) (hreleased : s.phase = .released) (h : s.StandbySound) :
    (endBoot s).StandbySound := by
  obtain ⟨-, hnil, -⟩ := h.start hidle
  obtain ⟨_, _, _, _, hdetect⟩ := bootDetect_changes (bootArbiter (bootStore s))
  have hresume : (bootStore s).resume = [] := by
    unfold bootStore
    rw [handOver_eq]
    exact hnil
  have hphase : (bootStore s).phase = .released := by
    unfold bootStore
    rw [handOver_eq]
    exact hreleased
  unfold endBoot
  rw [hdetect]
  refine ⟨?_, ⟨?_, fun _ => hresume⟩, fun hoff => ?_⟩
  · have hdescent : (bootArbiter (bootStore s)).descent =
        if (bootArbiter (bootStore s)).stby.filtered && !(bootArbiter (bootStore s)).halted then .seeking else .inactive := rfl
    have hsound : (bootArbiter (bootStore s)).descentSound := by
      unfold State.descentSound State.standbyFacet
      rw [hdescent]
      cases (bootArbiter (bootStore s)).stby.filtered <;> cases (bootArbiter (bootStore s)).halted <;> simp
    exact hsound
  · exact (hresume ▸ List.nodup_nil : (bootStore s).resume.Nodup)
  · refine absurd (((running_iff _).mpr ⟨?_, ?_⟩).symm.trans hoff) nofun
    · exact hphase
    · rfl

theorem tick_standbySound {s : State} (h : s.StandbySound) : (tick s).StandbySound := by
  refine h.of_sublist ?_ rfl rfl ?_ (List.Sublist.refl _)
  · have hstby : (tick s).stby = s.stby.tick := rfl
    rw [hstby]
    unfold SlowLine.tick
    split
    · rfl
    · split <;> rfl
  · have hdescent : (tick s).descent = s.descent.tick := rfl
    rw [hdescent]
    cases s.descent <;> simp [Descent.tick]

theorem resetState_standbySound (phase : PowerPhase) (s : State) : (resetState phase s).StandbySound :=
  ⟨⟨fun _ => .inl rfl, fun _ => rfl⟩, ⟨List.nodup_nil, fun _ => rfl⟩, fun _ => ⟨rfl, rfl, rfl⟩⟩

theorem applyWrite_standbySound {s : State} (loc : Location) (v : Byte) (h : s.StandbySound) :
    (applyWrite loc v s).StandbySound := by
  have hconfig (cfg : Image) : State.StandbySound { s with config := cfg } := h.of_eq rfl rfl rfl rfl rfl
  cases loc with
  | chan c f =>
    cases f with
    | detect =>
      simp only [applyWrite, writeChan]
      split
      · exact .of_served (represent_aside .asked _ c).toServed (hconfig _)
      · exact hconfig _
    | _ => exact hconfig _
  | load l f => cases f <;> exact hconfig _
  | slot g k =>
    simp only [applyWrite]
    split
    next c _ =>
      have hjoined : (joined s g k c).StandbySound := h.of_sublist rfl rfl rfl Iff.rfl List.filter_sublist
      by_cases hsame : (s.config.groups[g]).members[k.val]? = some c
      · simp only [writeMember, hsame, if_true]
        exact h
      · rw [writeMember_eq hsame]
        split
        · exact .of_served (represent_aside .asked _ c).toServed hjoined
        · exact hjoined
    next =>
      by_cases hlen : k.val < (s.config.groups[g]).members.length
      · rw [truncateMembers_eq hlen]
        refine h.of_sublist rfl rfl rfl Iff.rfl ?_
        unfold truncated
        dsimp only
        split
        · exact List.filter_sublist
        · exact List.Sublist.refl _
      · simp only [truncateMembers, Nat.not_lt.mp hlen, if_true]
        exact h
  | wrej =>
    simp only [applyWrite]
    split
    · exact h.of_eq rfl rfl rfl rfl rfl
    · exact h
  | _ => exact hconfig _

theorem writeData_standbySound {s : State} (v : Byte) (h : s.StandbySound) : (writeData v s).StandbySound := by
  have hsettled : (settleForWrite v s).StandbySound := .of_served (settleForWrite_served v s) h
  unfold writeData
  dsimp only
  split
  · exact hsettled.of_eq rfl rfl rfl rfl rfl
  · exact (applyWrite_standbySound _ v hsettled).of_eq rfl rfl rfl rfl rfl

/-- Every command keeps the standby descent and the resume list in agreement. -/
theorem exec_standbySound {i : Instr} {s t : State} (h : exec i s = .next t) (hs : s.StandbySound) : t.StandbySound := by
  have hP := State.StandbySound.robust
  have served {u v : State} (k : Served u v) : u.StandbySound → v.StandbySound := .of_served k
  have hlong (u : State) (code : Byte) (op : LongOp) (hc : u.takesCommands) (hu : (u.taken code).StandbySound) :
      State.StandbySound { u.taken code with unit := .executing op } := by
    refine hu.of_eq rfl rfl ?_ rfl rfl
    have hready : (u.taken code).unit = .ready := hc.2
    simp [State.running, State.released, hready, UnitState.isBooting]
  cases i with
  | request => exact hP.immediate (fun _ => Robust.onLoad fun l => served (request_served .host l _)) h hs
  | release => exact hP.immediate (fun _ => Robust.onLoad fun l => served (releaseLoad_served l _)) h hs
  | clear => exact hP.immediate (fun _ => Robust.onLoad fun l => served (clearLoad_served l _)) h hs
  | declareOff => exact hP.immediate (fun _ => served (declareOff_served _)) h hs
  | setBudget =>
    refine hP.immediate (fun _ hu => ?_) h hs
    unfold setBudget
    split
    · exact hu
    · refine State.StandbySound.recomputeCeiling ?_
      exact hu.of_eq rfl rfl rfl rfl rfl
  | setOvertake =>
    refine hP.immediate (fun _ hu => ?_) h hs
    unfold setOvertake
    split
    · exact hu
    · exact .of_served (grantPass_served _) (hu.of_eq rfl rfl rfl rfl rfl)
  | resume => exact hP.immediate (fun hc => resumeService_standbySound (s := s.taken 0x12) hc) h hs
  | snapshot => exact hP.immediate (fun _ hu => hu.of_eq rfl rfl rfl rfl rfl) h hs
  | unknown code => exact hP.immediate (fun _ hu => hu) h hs
  | saveProfile | revert => exact hP.longCommand (fun hc hu op _ => hlong s _ op hc hu) h hs
  | eraseProfiles => exact hP.longCommand (start := fun _ => .inr .erase) (fun hc hu op _ => hlong s _ op hc hu) h hs
  | saveProfileCompletion matched => exact hP.takeEvent (fun hr => endSave_standbySound (s := s.consume _) matched hr) h hs
  | eraseProfilesCompletion => exact hP.takeEvent (fun hr => endErase_standbySound (s := s.consume _) hr) h hs
  | revertCompletion => exact hP.takeEvent (fun hr => endRevert_standbySound (s := s.consume _) hr) h hs
  | haltRequest v | nieDieWrite v =>
    refine Robust.strobe (fun _ hu => ?_) h hs
    have hstored : State.StandbySound { s with nie := v.getLsbD 0, die := v.getLsbD 1 } := hu.of_eq rfl rfl rfl rfl rfl
    unfold writeControl
    dsimp only
    split
    · exact hstored.halt
    · exact hstored
  | statusOverrunClear v =>
    simp only [exec, execStatusOverrunClear] at h
    refine Robust.strobe (fun _ hu => ?_) h hs
    split
    · exact hu.of_eq rfl rfl rfl rfl rfl
    · exact hu
  | registerWrite r v =>
    refine Robust.strobe (fun _ hu => ?_) h hs
    cases r <;> exact hu.of_eq rfl rfl rfl rfl rfl
  | resultRead | dataRead | clockLoRead | noticeCursorWrite =>
    simp only [exec, execResultRead, execDataRead, execClockLoRead, execNoticeCursorWrite] at h
    exact Robust.strobe (fun _ hu => hu.of_eq rfl rfl rfl rfl rfl) h hs
  | dataWrite v => exact Robust.strobe (fun _ hu => writeData_standbySound v hu) h hs
  | noticeRead =>
    simp only [exec, execNoticeRead] at h
    refine Robust.strobe (fun _ hu => ?_) h hs
    unfold readNotice
    dsimp only
    split
    · exact hu.of_eq rfl rfl rfl rfl rfl
    · split <;> exact hu.of_eq rfl rfl rfl rfl rfl
  | clockTick =>
    cases h
    split
    · exact tick_standbySound hs
    · exact hs
  | powerOnReset | powerLoss =>
    cases h
    exact resetState_standbySound _ _
  | pinReset =>
    cases h
    split
    · exact resetState_standbySound _ _
    all_goals exact hs
  | resetRelease =>
    cases h
    split
    next hheld => exact hs.of_eq rfl rfl (by simp [State.running, State.released, hheld, UnitState.isBooting]) rfl rfl
    all_goals exact hs
  | bootLoadEnd =>
    cases h
    split
    next hboot =>
      simp only [State.booting, State.released, Bool.and_eq_true, beq_iff_eq] at hboot
      exact endBoot_standbySound (by simp [State.running, hboot.2]) hboot.1 hs
    next => exact hs
  | pgLineChange c high | fltNLineChange c high | detLineChange c high =>
    cases h
    exact hs.of_eq rfl rfl rfl rfl rfl
  | stbyLineChange b =>
    cases h
    refine hs.of_eq ?_ rfl rfl rfl rfl
    dsimp only
    unfold SlowLine.change
    split <;> rfl
  | lowsupLineChange =>
    cases h
    exact hs.of_eq rfl rfl rfl rfl rfl
  | pgRise c => exact hP.takeEvent (fun _ => served (channelPgRise_aside c _).toServed) h hs
  | pgFall c => exact hP.takeEvent (fun _ => served (channelPgFall_aside c _).toServed) h hs
  | fltNAsserted c => exact hP.takeEvent (fun _ => served (channelFltAsserted_aside c _).toServed) h hs
  | fltNDeasserted c => exact hP.takeEvent (fun _ => served (channelFltDeasserted_aside c _).toServed) h hs
  | rampTimerExpiry c => exact hP.takeEvent (fun _ => served (channelRampExpiry_aside c _).toServed) h hs
  | dischargeTimerExpiry c => exact hP.takeEvent (fun _ => served (channelDischargeExpiry_aside c _).toServed) h hs
  | staggerTimerExpiry l => exact hP.takeEvent (fun _ => served (takeStaggerExpiry_aside l _).toServed) h hs
  | grantPass => exact hP.takeEvent (fun _ => served (grantPass_served _)) h hs
  | coolDownExpiry l => exact hP.takeEvent (fun _ => served (takeCoolDownExpiry_served l _)) h hs
  | stableTimerExpiry l => exact hP.takeEvent (fun _ => served (takeStableExpiry_served l _)) h hs
  | lowsupFilterChange b =>
    refine hP.takeEvent (fun _ hu => ?_) h hs
    unfold takeLowsup
    split
    · refine State.StandbySound.recomputeCeiling ?_
      exact hu.of_eq rfl rfl rfl rfl rfl
    · exact hu
  | standbyEvent => exact hP.takeEvent (fun hr => takeStandby_standbySound (s := s.consume _) hr) h hs
  | wakeEvent => exact hP.takeEvent (fun hr => takeWake_standbySound (s := s.consume _) hr) h hs
  | spacingTimerExpiry => exact hP.takeEvent (fun _ => served (takeSpacingExpiry_served _)) h hs
  | detFilterChange c high => exact hP.takeEvent (fun _ => served (takeDetFilter_aside c high _).toServed) h hs
  | debounceTimerExpiry c => exact hP.takeEvent (fun _ => served (takeDebounceExpiry_aside c _).toServed) h hs
  | noticeHandover n => exact hP.takeEvent (fun _ => served (.handOver n _)) h hs
  | startRamp | waitTurn | fall | cancelTurn | grantHandover | orderlyDescentOrder | tripOrder | returnReport | cancelDrain
  | channelOn | fallComplete | loadUp | descentEnded | drainEnded | faultReport | autoRequest | autoRelease | bootRequest =>
    exact .of_served (takeInOrder_served h) hs

/-- Settles O9: the three parts are kept together, since the end of a halt and the wake event need each of the others. -/
theorem everyStepKeepsTheStandbyDescent : Obligations.EveryStepKeepsTheStandbyDescent := by
  unfold Obligations.EveryStepKeepsTheStandbyDescent
  intro s t hdescent hresume hstart h
  obtain ⟨hd, hr, hs⟩ := step_keeps (P := State.StandbySound) (fun _ _ hs => hs.of_eq rfl rfl rfl rfl rfl)
    (fun _ _ _ => exec_standbySound) h ⟨hdescent, hresume, hstart⟩
  exact ⟨hd, hr, hs⟩

end Sys2Proof.Machine
end

section
/-! The arbiter's books: holder list, wait queue, membership and HALTED agree with the load states (R3, R5, R9, R23, R126), and each
load's timers and attempts with its state (R3, R5, R6). Every event of the units keeps the two. -/

namespace Sys2Proof.Machine

/-! ## Where a load stands in the books -/

/-- The book a load state belongs to: the holder list, the wait queue, none, or one of the two states of the membership. -/
inductive Side where
  | held | queued | out | absorbed | void
  deriving DecidableEq

def LoadState.side : LoadState → Side
  | .rising | .up | .draining | .descending _ => .held
  | .queued => .queued
  | .idle | .cooling | .locked => .out
  | .absorbed => .absorbed
  | .void => .void

theorem LoadState.holding_iff_side (st : LoadState) : st.holding = true ↔ st.side = .held := by
  cases st <;> simp [LoadState.holding, LoadState.side]

theorem LoadState.queued_iff_side (st : LoadState) : st = .queued ↔ st.side = .queued := by
  cases st <;> simp [LoadState.side]

theorem LoadState.absorbed_iff_side (st : LoadState) : st = .absorbed ↔ st.side = .absorbed := by
  cases st <;> simp [LoadState.side]

theorem LoadState.void_iff_side (st : LoadState) : st = .void ↔ st.side = .void := by
  cases st <;> simp [LoadState.side]

theorem LoadState.holding_of_standing {st : LoadState} (h : st.standing = true) : st.holding = true := by
  cases st <;> simp_all [LoadState.holding, LoadState.standing]

/-- Nothing stands in an arbiter that is HALTED (R126). -/
theorem LoadState.not_halted_of_standing {st : LoadState} (h : st.standing = true) : st.halted = false := by
  cases st <;> simp_all [LoadState.halted, LoadState.standing]

/-- A load is ABSORBED or VOID exactly where the membership makes it so (R5). -/
def State.membershipHolds (s : State) (l : Load) : Prop :=
  (s.config.offered l = false ↔ (s.load l).state = if l.val < 8 then LoadState.absorbed else LoadState.void)
    ∧ (s.config.offered l = true → (s.load l).state ≠ .absorbed ∧ (s.load l).state ≠ .void)

/-- The arbiter's books in a part that runs. -/
structure Books (s : State) : Prop where
  config : s.config.sound
  holders : s.holdersSound
  queue : s.queueSound
  membership : ∀ l, s.membershipHolds l
  halt : s.haltSound

/-- Every load's timers and attempts agree with its state. -/
def State.timersSound (s : State) : Prop := ∀ l : Load, (s.load l).sound

/-! ## The lists of the books -/

theorem holdersSound_of_holding {s t : State} (hh : t.holders = s.holders)
    (hholding : ∀ l, (t.load l).state.holding = (s.load l).state.holding) (h : s.holdersSound) : t.holdersSound := by
  obtain ⟨hnodup, hmem, hamount⟩ := h
  unfold State.holdersSound
  rw [hh]
  exact ⟨hnodup, fun l => by rw [hholding]; exact hmem l, hamount⟩

theorem queueSound_of_queued {s t : State} (hq : t.queue = s.queue)
    (hqueued : ∀ l, (t.load l).state = .queued ↔ (s.load l).state = .queued) (h : s.queueSound) : t.queueSound := by
  obtain ⟨hnodup, hmem, hsorted⟩ := h
  unfold State.queueSound
  rw [hq]
  exact ⟨hnodup, fun l => by rw [hqueued]; exact hmem l, hsorted⟩

theorem membershipHolds_of_side {s t : State} {l : Load} (hc : t.config.offered l = s.config.offered l)
    (hside : (t.load l).state.side = (s.load l).state.side) (h : s.membershipHolds l) : t.membershipHolds l := by
  unfold State.membershipHolds at *
  have heq (a : LoadState) (ha : a = .absorbed ∨ a = .void) : (t.load l).state = a ↔ (s.load l).state = a := by
    rcases ha with rfl | rfl
    · rw [LoadState.absorbed_iff_side, hside, ← LoadState.absorbed_iff_side]
    · rw [LoadState.void_iff_side, hside, ← LoadState.void_iff_side]
  rw [hc, Ne, Ne, heq .absorbed (.inl rfl), heq .void (.inr rfl), heq _ (by split <;> simp)]
  exact h

/-- A load moves between books that the membership does not ask about. -/
theorem membershipHolds_of_member {s t : State} {l : Load} (hc : t.config.offered l = s.config.offered l)
    (hs : (s.load l).state ≠ .absorbed ∧ (s.load l).state ≠ .void) (ht : (t.load l).state ≠ .absorbed ∧ (t.load l).state ≠ .void)
    (h : s.membershipHolds l) : t.membershipHolds l := by
  unfold State.membershipHolds at *
  have hne (st : LoadState) (hst : st ≠ .absorbed ∧ st ≠ .void) : ¬st = if l.val < 8 then LoadState.absorbed else LoadState.void := by
    split
    · exact hst.1
    · exact hst.2
  rw [hc]
  exact ⟨⟨fun ho => absurd (h.1.mp ho) (hne _ hs), fun hst => absurd hst (hne _ ht)⟩, fun _ => ht⟩

/-- One load takes a new record. -/
def State.loadsSet (s t : State) (l : Load) (r : LoadRun) : Prop := ∀ x, t.load x = if l = x then r else s.load x

theorem State.loadsSet_set {s t : State} {l : Load} {r : LoadRun} (h : t.loads = s.loads.set l r) : s.loadsSet t l r := fun x => by
  rw [← State.setLoad_load, State.load, State.load, h]
  rfl

theorem mem_map_filter_ne {α : Type} {f : α → Load} {l x : Load} {as : List α} :
    x ∈ (as.filter fun a => f a != l).map f ↔ x ≠ l ∧ x ∈ as.map f := by
  simp only [List.mem_map, List.mem_filter, bne_iff_ne]
  constructor
  · rintro ⟨a, ⟨ha, hne⟩, rfl⟩
    exact ⟨hne, a, ha, rfl⟩
  · rintro ⟨hne, a, ha, rfl⟩
    exact ⟨a, ⟨ha, hne⟩, rfl⟩

section
variable {s t : State} {l : Load} {r : LoadRun} (ht : s.loadsSet t l r)
include ht

theorem holdersSound_set (hh : t.holders = s.holders) (hr : r.state.holding = (s.load l).state.holding) (h : s.holdersSound) :
    t.holdersSound := by
  obtain ⟨hnodup, hmem, hamount⟩ := h
  unfold State.holdersSound
  rw [hh]
  refine ⟨hnodup, fun x => ?_, hamount⟩
  rw [ht x]
  split
  next hx => rw [hr, hmem, hx]
  next => exact hmem x

/-- A load leaves the holder list. -/
theorem holdersSound_leave (hh : t.holders = s.holders.filter fun h => h.load != l) (hr : r.state.holding = false)
    (h : s.holdersSound) : t.holdersSound := by
  obtain ⟨hnodup, hmem, hamount⟩ := h
  unfold State.holdersSound
  rw [hh]
  refine ⟨hnodup.sublist (List.filter_sublist.map _), fun x => ?_, fun k hk => hamount k (List.mem_filter.mp hk).1⟩
  rw [mem_map_filter_ne, ht x]
  split
  next hx => simp [hx, hr]
  next hx => rw [hmem x, ne_eq, eq_comm (a := x), and_iff_right hx]

theorem queueSound_set (hq : t.queue = s.queue) (hr : r.state = .queued ↔ (s.load l).state = .queued) (h : s.queueSound) :
    t.queueSound := by
  obtain ⟨hnodup, hmem, hsorted⟩ := h
  unfold State.queueSound
  rw [hq]
  refine ⟨hnodup, fun x => ?_, hsorted⟩
  rw [ht x]
  split
  next hx => rw [hr, hmem, hx]
  next => exact hmem x

/-- A load leaves the wait queue. -/
theorem queueSound_leave (hq : t.queue = s.queue.filter fun e => e.load != l) (hr : r.state ≠ .queued) (h : s.queueSound) :
    t.queueSound := by
  obtain ⟨hnodup, hmem, hsorted⟩ := h
  unfold State.queueSound
  rw [hq]
  refine ⟨hnodup.sublist (List.filter_sublist.map _), fun x => ?_, hsorted.sublist List.filter_sublist⟩
  rw [mem_map_filter_ne, ht x]
  split
  next hx => simp [hx, hr]
  next hx => rw [hmem x, ne_eq, eq_comm (a := x), and_iff_right hx]

end

/-- An arrival keeps the queue in non-increasing order of priority: it stands behind its equals (R23). -/
theorem insertEntry_pairwise (e : Entry) {q : List Entry} (h : q.Pairwise fun a b => b.priority ≤ a.priority) :
    (insertEntry e q).Pairwise fun a b => b.priority ≤ a.priority := by
  induction q with
  | nil => exact List.pairwise_singleton _ _
  | cons x q ih =>
    obtain ⟨hx, hq⟩ := List.pairwise_cons.mp h
    unfold insertEntry
    split
    next hlt =>
      refine List.pairwise_cons.mpr ⟨fun y hy => ?_, h⟩
      rcases List.mem_cons.mp hy with rfl | hy
      · exact le_of_lt hlt
      · exact (hx y hy).trans (le_of_lt hlt)
    next hge =>
      refine List.pairwise_cons.mpr ⟨fun y hy => ?_, ih hq⟩
      have hperm : y = e ∨ y ∈ q := by
        obtain ⟨a, b, rfl, hi, -⟩ := insertEntry_splits e q
        rw [hi] at hy
        simp only [List.mem_append, List.mem_cons] at hy ⊢
        tauto
      rcases hperm with rfl | hy
      · exact not_lt.mp hge
      · exact hx y hy

theorem insertEntry_perm (e : Entry) (q : List Entry) : (insertEntry e q).Perm (e :: q) := by
  obtain ⟨a, b, rfl, hi, -⟩ := insertEntry_splits e q
  rw [hi]
  exact List.perm_middle

/-- A load enters the wait queue. -/
theorem queueSound_insert {s t : State} {e : Entry} {r : LoadRun} (ht : s.loadsSet t e.load r)
    (hq : t.queue = insertEntry e s.queue) (hr : r.state = .queued) (hs : (s.load e.load).state ≠ .queued) (h : s.queueSound) :
    t.queueSound := by
  obtain ⟨hnodup, hmem, hsorted⟩ := h
  have hloads := (insertEntry_perm e s.queue).map Entry.load
  unfold State.queueSound
  rw [hq]
  refine ⟨?_, fun x => ?_, insertEntry_pairwise e hsorted⟩
  · rw [hloads.nodup_iff, List.map_cons, List.nodup_cons, hmem]
    exact ⟨hs, hnodup⟩
  · rw [hloads.mem_iff, List.map_cons, List.mem_cons, hmem, ht x]
    by_cases hx : e.load = x
    · simp [hx, hr]
    · simp [hx, Ne.symm hx]

/-- A load joins the holder list as its youngest. -/
theorem holdersSound_append {s t : State} {h : Holder} {r : LoadRun} (ht : s.loadsSet t h.load r)
    (hh : t.holders = s.holders ++ [h]) (hr : r.state.holding = true) (hs : (s.load h.load).state.holding = false)
    (hamount : 1 ≤ h.amount) (hsound : s.holdersSound) : t.holdersSound := by
  obtain ⟨hnodup, hmem, hamounts⟩ := hsound
  have hnot : h.load ∉ s.holders.map (·.load) := by
    rw [hmem, hs]
    exact nofun
  have hmap : t.holders.map (·.load) = (s.holders.map (·.load)).concat h.load := by simp [hh]
  refine ⟨hmap ▸ hnodup.concat hnot, fun x => ?_, fun k hk => ?_⟩
  · rw [hmap, List.concat_eq_append, List.mem_append, List.mem_singleton, hmem, ht x]
    by_cases hx : h.load = x
    · simp [hx, hr]
    · simp [hx, Ne.symm hx]
  · rw [hh, List.mem_append, List.mem_singleton] at hk
    rcases hk with hk | rfl
    · exact hamounts k hk
    · exact hamount

/-- An entry is taken out of the wait queue. -/
theorem queueSound_remove {s t : State} {pre q : List Entry} {e : Entry} {r : LoadRun} (ht : s.loadsSet t e.load r)
    (hs : s.queue = pre ++ e :: q) (hq : t.queue = pre ++ q) (hr : r.state ≠ .queued) (h : s.queueSound) : t.queueSound := by
  have hnodup := h.1
  rw [hs, (List.perm_middle.map Entry.load).nodup_iff, List.map_cons, List.nodup_cons] at hnodup
  have hfilter : t.queue = s.queue.filter fun x => x.load != e.load := by
    have hout (x : Entry) (hx : x ∈ pre ++ q) : (x.load != e.load) = true :=
      bne_iff_ne.mpr fun heq => hnodup.1 (heq ▸ List.mem_map_of_mem hx)
    have hpre := List.filter_eq_self.mpr fun x hx => hout x (List.mem_append_left q hx)
    have hpost := List.filter_eq_self.mpr fun x hx => hout x (List.mem_append_right pre hx)
    simp [hs, hq, hpre, hpost]
  exact queueSound_leave ht hfilter hr h

/-- The counts and origins of the entries are not in the books. -/
theorem queueSound_of_entries {s t : State} (hload : ∀ l, t.load l = s.load l)
    (hl : t.queue.map (·.load) = s.queue.map (·.load)) (hp : t.queue.map (·.priority) = s.queue.map (·.priority))
    (h : s.queueSound) : t.queueSound := by
  obtain ⟨hnodup, hmem, hsorted⟩ := h
  have hsorted' {q : List Entry} : q.Pairwise (fun a b => b.priority ≤ a.priority) ↔ (q.map (·.priority)).Pairwise fun a b => b ≤ a := by
    rw [List.pairwise_map]
  refine ⟨hl ▸ hnodup, fun x => ?_, ?_⟩
  · rw [hl, hload]
    exact hmem x
  · rw [hsorted', hp, ← hsorted']
    exact hsorted

/-! ## Single loads -/

/-- A load stays in its book, sound, and as HALTED admits it. -/
structure LoadRun.Moved (off : Bool) (r r' : LoadRun) : Prop where
  side : r'.state.side = r.state.side
  halted : off = true → r.state.halted = true → r'.state.halted = true
  sound : r.sound → r'.sound
  locked : r.state = .locked → r'.state = .locked

theorem LoadRun.Moved.refl {off : Bool} (r : LoadRun) : LoadRun.Moved off r r := ⟨rfl, fun _ => id, id, id⟩

/-- A holder goes down, with after IDLE where the arbiter is HALTED. -/
theorem LoadRun.intoDescending_moved {off : Bool} {r : LoadRun} {a : After} (h : r.state.holding = true)
    (ha : off = true → r.state.halted = true → a = .idle) : LoadRun.Moved off r (r.intoDescending a) := by
  obtain ⟨st, attempts, cooling, stable⟩ := r
  refine ⟨?_, fun ho hh => ?_, fun hs => ?_, ?_⟩
  · exact ((LoadState.holding_iff_side st).mp h).symm
  · rw [ha ho hh]
    rfl
  · obtain ⟨hcool, -, hatt, -⟩ := hs
    have hne : st ≠ .cooling := by rintro rfl; cases h
    exact ⟨by simpa [LoadRun.intoDescending, hne] using hcool, by simp [LoadRun.intoDescending],
      hatt, by simp [LoadRun.intoDescending]⟩
  · rintro rfl
    cases h

/-- A standing load goes down. -/
theorem LoadRun.intoDescending_moved_of_standing {off : Bool} {r : LoadRun} (a : After) (h : r.state.standing = true) :
    LoadRun.Moved off r (r.intoDescending a) :=
  LoadRun.intoDescending_moved (LoadState.holding_of_standing h) fun _ hh =>
    absurd (LoadState.not_halted_of_standing h) (by simp [hh])

/-- A standing load changes its state, its stable timer running in UP and DRAINING only. -/
theorem LoadRun.stand_moved {off : Bool} {r : LoadRun} {st : LoadState} {stable : Timer} (h : r.state.standing = true)
    (hst : st.standing = true)
    (hstable : (r.stable ≠ .stopped → r.state.stableRuns = true) → stable ≠ .stopped → st.stableRuns = true) :
    LoadRun.Moved off r { r with state := st, stable := stable } := by
  obtain ⟨st', attempts, cooling, stable'⟩ := r
  have hheld {x : LoadState} (hx : x.standing = true) : x.side = .held :=
    (LoadState.holding_iff_side x).mp (LoadState.holding_of_standing hx)
  have hne {x : LoadState} (hx : x.standing = true) : x ≠ .cooling ∧ x ≠ .idle ∧ x ≠ .absorbed ∧ x ≠ .void := by
    cases x <;> simp_all [LoadState.standing]
  refine ⟨(hheld hst).trans (hheld h).symm, fun _ hh => ?_, fun hs => ?_, ?_⟩
  · exact absurd (LoadState.not_halted_of_standing h) (by simp [hh])
  · obtain ⟨hcool, hs, hatt, -⟩ := hs
    refine ⟨?_, hstable hs, hatt, ?_⟩
    · simpa [(hne hst).1, (hne h).1] using hcool
    · simp [hne hst]
  · rintro rfl
    cases h

/-- The after value of a DESCENDING load changes, to IDLE where the arbiter is HALTED. -/
theorem LoadRun.after_moved {off : Bool} {r : LoadRun} {a b : After} (h : r.state = .descending a) (hb : off = true → b = .idle) :
    LoadRun.Moved off r { r with state := .descending b } := by
  obtain ⟨st, attempts, cooling, stable⟩ := r
  dsimp only at h
  subst h
  refine ⟨rfl, fun ho _ => ?_, fun hs => ?_, nofun⟩
  · rw [hb ho]
    rfl
  · simpa [LoadRun.sound, LoadState.stableRuns] using hs

/-! ## One event after another -/

/-- From one state to the other the arbiter has served events by its books. -/
structure Booked (s t : State) : Prop where
  frame : t.phase = s.phase ∧ t.unit = s.unit ∧ t.slotA = s.slotA ∧ t.slotB = s.slotB ∧ t.halted = s.halted
  books : Books s → Books t
  timers : Books s → s.timersSound → t.timersSound
  locked : Books s → ∀ l, (s.load l).state = .locked → (t.load l).state = .locked
  holders_halted : s.halted = true → t.holders.Sublist s.holders

namespace Booked

variable {s t u : State}

theorem halted_eq (h : Booked s t) : t.halted = s.halted := h.frame.2.2.2.2

theorem trans (h : Booked s t) (k : Booked t u) : Booked s u := by
  refine ⟨?_, k.books ∘ h.books, fun hb => k.timers (h.books hb) ∘ h.timers hb, fun hb l => k.locked (h.books hb) l ∘ h.locked hb l,
    fun hh => (k.holders_halted (h.halted_eq.trans hh)).trans (h.holders_halted hh)⟩
  obtain ⟨hp, hu, ha, hb, hh⟩ := h.frame
  obtain ⟨kp, ku, ka, kb, kh⟩ := k.frame
  exact ⟨kp.trans hp, ku.trans hu, ka.trans ha, kb.trans hb, kh.trans hh⟩

/-- What is known of the books before an event may be used of the event. -/
theorem of_books (hframe : t.phase = s.phase ∧ t.unit = s.unit ∧ t.slotA = s.slotA ∧ t.slotB = s.slotB ∧ t.halted = s.halted)
    (hsub : s.halted = true → t.holders.Sublist s.holders) (h : Books s → Booked s t) : Booked s t :=
  ⟨hframe, fun hb => (h hb).books hb, fun hb => (h hb).timers hb, fun hb => (h hb).locked hb, hsub⟩

/-- Loads move within their books. -/
theorem of_moved
    (hframe : t.phase = s.phase ∧ t.unit = s.unit ∧ t.slotA = s.slotA ∧ t.slotB = s.slotB ∧ t.halted = s.halted)
    (hconfig : t.config = s.config) (hh : t.holders = s.holders) (hq : t.queue = s.queue)
    (hr : s.halted = true → s.resume = [] → t.resume = [])
    (hload : ∀ l, LoadRun.Moved s.halted (s.load l) (t.load l)) : Booked s t := by
  have hside (l : Load) : (t.load l).state.side = (s.load l).state.side := (hload l).side
  refine ⟨hframe, fun hb => ?_, fun _ hs l => (hload l).sound (hs l), fun _ l => (hload l).locked, fun _ => hh ▸ List.Sublist.refl _⟩
  refine ⟨hconfig ▸ hb.config, holdersSound_of_holding hh (fun l => ?_) hb.holders, queueSound_of_queued hq (fun l => ?_) hb.queue,
    fun l => membershipHolds_of_side (by rw [hconfig]) (hside l) (hb.membership l), fun hhalted => ?_⟩
  · rw [Bool.eq_iff_iff, LoadState.holding_iff_side, LoadState.holding_iff_side, hside]
  · rw [LoadState.queued_iff_side, LoadState.queued_iff_side, hside]
  have hs : s.halted = true := hframe.2.2.2.2.symm.trans hhalted
  obtain ⟨hqueue, hresume, hstates⟩ := hb.halt hs
  exact ⟨hq.trans hqueue, hr hs hresume, fun l => (hload l).halted hs (hstates l)⟩

theorem of_aside (h : Aside s t) : Booked s t := by
  have hload (l : Load) : t.load l = s.load l := by rw [State.load, State.load, h.loads_eq]
  refine of_moved ⟨h.phase_eq, h.unit_eq, ?_, ?_, h.halted_eq⟩ h.config_eq h.holders_eq h.queue_eq (fun _ => h.resume_eq.trans)
    fun l => hload l ▸ .refl _
  · rw [h.frame]
  · rw [h.frame]

theorem refl (s : State) : Booked s s := of_aside (.refl s)

theorem foldl {α : Type} {f : State → α → State} (hf : ∀ s x, Booked s (f s x)) (xs : List α) (s : State) :
    Booked s (xs.foldl f s) := by
  induction xs generalizing s with
  | nil => exact refl s
  | cons x xs ih => exact (hf s x).trans (ih (f s x))

theorem setLoad {l : Load} {r : LoadRun} (h : LoadRun.Moved s.halted (s.load l) r) : Booked s (s.setLoad l r) := by
  refine of_moved ⟨rfl, rfl, rfl, rfl, rfl⟩ rfl rfl rfl (fun _ => id) fun m => ?_
  rw [State.setLoad_load]
  split
  next hlm => exact hlm ▸ h
  next => exact .refl _

/-- A load leaves the resume list. -/
theorem leaveResume (s : State) (p : Load → Bool) : Booked s { s with resume := s.resume.filter p } :=
  of_moved ⟨rfl, rfl, rfl, rfl, rfl⟩ rfl rfl rfl (fun _ hr => by simp [hr]) fun _ => .refl _

/-- One load moves between its books. -/
theorem rebook {l : Load} {r : LoadRun}
    (hframe : t.phase = s.phase ∧ t.unit = s.unit ∧ t.slotA = s.slotA ∧ t.slotB = s.slotB ∧ t.halted = s.halted)
    (hconfig : t.config = s.config) (ht : s.loadsSet t l r)
    (hs : (s.load l).state ∉ [LoadState.locked, .absorbed, .void]) (hr : r.state ∉ [LoadState.absorbed, .void])
    (hsound : (s.load l).sound → r.sound) (hholders : s.holdersSound → t.holdersSound) (hqueue : s.queueSound → t.queueSound)
    (hhalt : s.halted = true → r.state.halted = true ∧ (s.queue = [] → t.queue = []) ∧ (s.resume = [] → t.resume = [])
      ∧ t.holders.Sublist s.holders) : Booked s t := by
  simp only [List.mem_cons, List.not_mem_nil, or_false, not_or] at hs hr
  refine ⟨hframe, fun hb => ⟨hconfig ▸ hb.config, hholders hb.holders, hqueue hb.queue, fun x => ?_, fun hh => ?_⟩, fun _ hts x => ?_,
    fun _ x hx => ?_, fun hh => (hhalt hh).2.2.2⟩
  · by_cases hx : l = x
    · subst hx
      refine membershipHolds_of_member (by rw [hconfig]) hs.2 ?_ (hb.membership l)
      rw [ht, if_pos rfl]
      exact hr
    · exact membershipHolds_of_side (by rw [hconfig]) (by rw [ht, if_neg hx]) (hb.membership x)
  · have hh : s.halted = true := hframe.2.2.2.2.symm.trans hh
    obtain ⟨hst, hq, hres, -⟩ := hhalt hh
    obtain ⟨hqueue, hresume, hstates⟩ := hb.halt hh
    refine ⟨hq hqueue, hres hresume, fun x => ?_⟩
    rw [ht]
    split
    · exact hst
    · exact hstates x
  · rw [ht]
    split
    · exact hsound (hts l)
    · exact hts x
  · rw [ht, if_neg]
    · exact hx
    · rintro rfl
      exact hs.1 hx

end Booked

end Sys2Proof.Machine
end

section
/-! Every event of the units goes by the arbiter's books: it moves each load between them as the rules of its state say (R4, R6, R15,
R18, R36, R126). -/

namespace Sys2Proof.Machine

/-! ## Loads -/

theorem enterDescending_booked {l : Load} {a : After} {s : State} (h : (s.load l).state.holding = true)
    (ha : s.halted = true → (s.load l).state.halted = true → a = .idle) : Booked s (enterDescending l a s) :=
  .setLoad (LoadRun.intoDescending_moved h ha)

theorem enterDescending_booked_of_standing {l : Load} (a : After) {s : State} (h : (s.load l).state.standing = true) :
    Booked s (enterDescending l a s) := .setLoad (LoadRun.intoDescending_moved_of_standing a h)

theorem descendInOrder_booked {l : Load} (a : After) {s : State} (h : (s.load l).state.standing = true) :
    Booked s (descendInOrder l a s) := (enterDescending_booked_of_standing a h).trans (.of_aside (.post _ _))

theorem enqueue_load (o : Origin) (l : Load) (s : State) (x : Load) :
    (enqueue o l s).load x = if l = x then { s.load l with state := .queued } else s.load x :=
  State.setLoad_load s l x _

/-- A load that is in no book enters the wait queue of an arbiter that is not HALTED (R15, R22). -/
theorem enqueue_booked {o : Origin} {l : Load} {s : State} (hhalted : s.halted = false) (h : (s.load l).state = .idle) :
    Booked s (enqueue o l s) := by
  have hset : s.loadsSet (enqueue o l s) l { s.load l with state := .queued } := State.loadsSet_set rfl
  refine .rebook ⟨rfl, rfl, rfl, rfl, rfl⟩ rfl hset (by simp [h]) (by simp) (fun hs => ?_)
    (holdersSound_set hset rfl (by rw [h]; rfl)) (queueSound_insert hset rfl rfl (by rw [h]; exact nofun)) (by simp [hhalted])
  obtain ⟨hcool, hstable, hatt, -⟩ := hs
  rw [h] at hcool hstable
  exact ⟨by simpa using hcool, by simpa [LoadState.stableRuns] using hstable, hatt, by simp⟩

/-! ## The grant pass -/

theorem Image.channelsOf_ne_nil {img : Image} {l : Load} (h : img.offered l = true) : img.channelsOf l ≠ [] := by
  unfold Image.offered at h
  unfold Image.channelsOf
  split at h
  · simp_all
  · simpa using h

/-- A load that the membership offers claims at least 1 BU (R1, R45). -/
theorem Image.one_le_claimOf {img : Image} {l : Load} (hc : img.sound) (h : img.offered l = true) : 1 ≤ img.claimOf l := by
  obtain ⟨c, cs, heq⟩ := List.exists_cons_of_ne_nil (img.channelsOf_ne_nil h)
  have hclaim : (img.channels[c]).claim.toNat ≠ 0 := fun h0 => hc.2 c (BitVec.eq_of_toNat_eq (by simpa using h0))
  simp only [Image.claimOf, heq, List.map_cons, List.sum_cons]
  omega

/-- A load of the wait queue is one that the membership offers (R5, R23). -/
theorem Books.offered_of_queued {s : State} (h : Books s) {l : Load} (hl : (s.load l).state = .queued) :
    s.config.offered l = true := by
  rw [← Bool.not_eq_false]
  intro hoff
  have hst := (h.membership l).1.mp hoff
  rw [hl] at hst
  split at hst <;> cases hst

/-- The scan stands between the entries it has left behind and those it has still to treat: the queue of a pass that is under way
(R33). -/
def State.withQueue (s : State) (q : List Entry) : State := { s with queue := q }

theorem grant_withQueue_booked {s : State} {pre q : List Entry} {e : Entry} (hhalted : s.halted = false) :
    Booked (s.withQueue (pre ++ e :: q)) ((grant e s).withQueue (pre ++ q)) := by
  have hnot {P : Prop} (hh : s.halted = true) : P := absurd (hhalted.symm.trans hh) nofun
  rw [grant_eq]
  refine .of_books ⟨rfl, rfl, rfl, rfl, rfl⟩ hnot fun hb => ?_
  have hqueued : (s.load e.load).state = .queued := (hb.queue.2.1 e.load).mp (by simp [State.withQueue])
  refine .rebook (l := e.load) (r := { s.load e.load with state := .rising }) ⟨rfl, rfl, rfl, rfl, rfl⟩ rfl (State.loadsSet_set rfl)
    ?_ (by simp) (fun hs => ?_) (holdersSound_append (State.loadsSet_set rfl) rfl rfl ?_ ?_)
    (queueSound_remove (State.loadsSet_set rfl) rfl rfl nofun) hnot
  · exact fun hin => absurd (hqueued ▸ hin : LoadState.queued ∈ _) (by simp)
  · obtain ⟨hcool, hstable, hatt, -⟩ : (s.load e.load).sound := hs
    exact ⟨by simpa [hqueued] using hcool, by simpa [hqueued, LoadState.stableRuns] using hstable, hatt, by simp⟩
  · exact congrArg LoadState.holding hqueued
  · exact Image.one_le_claimOf hb.config (hb.offered_of_queued (l := e.load) hqueued)

/-- A bypassed entry keeps its load and its place; its count is not in the books. -/
theorem withQueue_recount_booked {s : State} {pre q : List Entry} {e e' : Entry} (hl : e'.load = e.load) (hp : e'.priority = e.priority) :
    Booked (s.withQueue (pre ++ e :: q)) (s.withQueue (pre ++ e' :: q)) := by
  refine ⟨⟨rfl, rfl, rfl, rfl, rfl⟩, fun hb => ⟨hb.config, hb.holders, ?_, hb.membership, fun hh => ?_⟩, fun _ hs => hs, fun _ _ h => h,
    fun _ => List.Sublist.refl _⟩
  · exact queueSound_of_entries (s := s.withQueue (pre ++ e :: q)) (fun _ => rfl) (by simp [State.withQueue, hl]) (by simp [State.withQueue, hp]) hb.queue
  · obtain ⟨hq, -⟩ := hb.halt hh
    exact absurd hq (by simp [State.withQueue])

theorem scan_withQueue_booked (q : List Entry) {pre : List Entry} {s : State} (hhalted : s.halted = false) :
    Booked (s.withQueue (pre ++ q)) ((scan q s).2.2.withQueue (pre ++ (scan q s).1)) := by
  induction q generalizing pre s with
  | nil => exact .refl _
  | cons e q ih =>
    have hkept : Booked (s.withQueue (pre ++ e :: q)) ((scan q s).2.2.withQueue (pre ++ e :: (scan q s).1)) := by
      have := ih (pre := pre ++ [e]) hhalted
      simpa using this
    unfold scan
    split
    · exact hkept
    · split
      · have hg : (grant e s).halted = false := by rw [grant_eq]; exact hhalted
        exact (grant_withQueue_booked hhalted).trans (ih hg)
      · split
        · refine hkept.trans (withQueue_recount_booked ?_ ?_) <;> split <;> rfl
        · exact .refl _

theorem grantPass_booked (s : State) : Booked s (grantPass s) := by
  unfold grantPass
  split
  · exact .refl s
  next hgo =>
    have hhalted : s.halted = false := by simp_all
    exact scan_withQueue_booked s.queue (pre := []) hhalted

/-! ## Selections -/

/-- A candidate of a selection stands (R117). -/
theorem standing_of_candidate {s : State} {l : Load} (h : l ∈ s.standbyCandidates) : (s.load l).state.standing = true := by
  simp only [State.standbyCandidates, List.mem_filter, Bool.and_eq_true, Bool.or_eq_true, beq_iff_eq] at h
  rcases h.2.1.1 with h | h <;> rw [h] <;> rfl

/-- A load in a state that HALTED does not admit shows that the arbiter is not HALTED (R126). -/
theorem Books.not_halted {s : State} (h : Books s) {l : Load} (hl : (s.load l).state.halted = false) : s.halted = false := by
  rw [← Bool.not_eq_true]
  intro hh
  exact absurd ((h.halt hh).2.2 l) (by simp [hl])

theorem Books.not_halted_of_standing {s : State} (h : Books s) {l : Load} (hl : (s.load l).state.standing = true) :
    s.halted = false := h.not_halted (LoadState.not_halted_of_standing hl)

theorem select_booked (s : State) : Booked s (select s) := by
  unfold select
  split
  · exact .of_moved ⟨rfl, rfl, rfl, rfl, rfl⟩ rfl rfl rfl (fun _ => id) fun _ => .refl _
  next l hl =>
    have hstands := standing_of_candidate (lowestYoungest_mem hl)
    refine .of_books ⟨rfl, rfl, rfl, rfl, rfl⟩ (fun _ => List.Sublist.refl _) fun hb => ?_
    refine (descendInOrder_booked .idle hstands).trans (.of_moved ⟨rfl, rfl, rfl, rfl, rfl⟩ rfl rfl rfl ?_ fun _ => .refl _)
    exact fun hh => absurd ((hb.not_halted_of_standing hstands).symm.trans hh) nofun

theorem selectIfSeeking_booked (s : State) : Booked s (selectIfSeeking s) := by
  unfold selectIfSeeking
  split
  · exact select_booked s
  · exact .refl s

/-! ## Requests and releases -/

theorem judge_booked (o : Origin) (l : Load) (s : State) : Booked s (judge o l s).2 := by
  unfold judge
  split
  · exact .refl s
  next hh =>
    have hhalted : s.halted = false := Bool.eq_false_iff.mpr hh
    split
    next hidle =>
      split
      · exact .refl s
      · split
        · exact .refl s
        · exact enqueue_booked hhalted hidle
    case h_5 hdraining =>
      have hup : Booked s (s.setLoad l { s.load l with state := .up }) :=
        .setLoad (LoadRun.stand_moved (by rw [hdraining]; rfl) rfl fun _ _ => rfl)
      exact hup.trans (.of_aside (.post _ _))
    case h_6 hdesc => exact .setLoad (LoadRun.after_moved hdesc fun h => absurd h hh)
    all_goals exact .refl s

theorem request_booked (o : Origin) (l : Load) (s : State) : Booked s (request o l s).2 := by
  have hj := judge_booked o l s
  simp only [request]
  split
  · exact hj.trans (grantPass_booked _)
  · exact hj.trans ((grantPass_booked _).trans (selectIfSeeking_booked _))
  · exact hj

theorem takeRequest_booked (o : Origin) (l : Load) (s : State) : Booked s (noteRefusal l (request o l s)) :=
  (request_booked o l s).trans (.of_aside (.noteRefusal l _))

theorem drainDescendant_booked (s : State) (x : Load) : Booked s (drainDescendant s x) := by
  unfold drainDescendant
  split
  case h_1 h | h_2 h | h_3 h => exact descendInOrder_booked _ (by rw [h]; rfl)
  all_goals exact .refl s

theorem recordToDrain_aside (l : Load) (s : State) : Aside s (recordToDrain l s) := by
  obtain ⟨_, _, h⟩ := recordToDrain_changes l s
  rw [h]
  exact .of_frame rfl

theorem beginDrain_booked {l : Load} {s : State} (h : (s.load l).state = .up) : Booked s (beginDrain l s) := by
  have hdrains : Booked s (s.setLoad l { s.load l with state := .draining }) :=
    .setLoad (LoadRun.stand_moved (by rw [h]; rfl) rfl fun _ _ => rfl)
  exact hdrains.trans ((Booked.foldl drainDescendant_booked _ _).trans (.of_aside (recordToDrain_aside l _)))

/-- A load enters IDLE out of a state that has neither a place in the queue nor a reservation (R6). -/
theorem LoadRun.intoIdle_sound (r : LoadRun) : r.intoIdle.sound := by
  simp [LoadRun.sound, LoadRun.intoIdle]

theorem releaseByState_booked (l : Load) (s : State) : Booked s (releaseByState l s).2 := by
  unfold releaseByState
  split
  case h_4 hqueued =>
    have hidle : Booked s (enterIdle l { s with queue := s.queue.filter fun e => e.load != l }) := by
      have hset : s.loadsSet (enterIdle l { s with queue := s.queue.filter fun e => e.load != l }) l (s.load l).intoIdle :=
        State.loadsSet_set rfl
      refine .rebook ⟨rfl, rfl, rfl, rfl, rfl⟩ rfl hset (by simp [hqueued]) (by simp [LoadRun.intoIdle])
        (fun _ => LoadRun.intoIdle_sound _) (holdersSound_set hset rfl (by rw [hqueued]; rfl)) (queueSound_leave hset rfl nofun)
        fun _ => ⟨rfl, fun hq => ?_, id, List.Sublist.refl _⟩
      have hempty : (s.queue.filter fun e => e.load != l) = [] := by simp [hq]
      exact hempty
    exact hidle.trans (grantPass_booked _)
  case h_5 h => exact descendInOrder_booked .idle (by rw [h]; rfl)
  case h_6 h =>
    dsimp only
    split
    · exact descendInOrder_booked .idle (by rw [h]; rfl)
    · exact beginDrain_booked h
  case h_7 h | h_8 h => exact .setLoad (LoadRun.after_moved h fun _ => rfl)
  case h_9 h =>
    refine .setLoad ⟨by rw [h]; rfl, fun _ _ => rfl, fun _ => LoadRun.intoIdle_sound _, fun hl => ?_⟩
    rw [h] at hl
    cases hl
  all_goals exact .refl s

theorem releaseLoad_booked (l : Load) (s : State) : Booked s (releaseLoad l s).2 :=
  (Booked.leaveResume s (· != l)).trans (releaseByState_booked l _)

/-! ## Trips and shedding -/

theorem tripDescendant_booked (s : State) (x : Load) : Booked s (tripDescendant s x) := by
  unfold tripDescendant
  dsimp only
  split
  case h_1 h | h_2 h | h_3 h =>
    exact (enterDescending_booked_of_standing _ (by rw [h]; rfl)).trans (.of_aside (.post _ _))
  all_goals exact .of_aside (.post _ _)

theorem trip_booked {l : Load} {a : After} {s : State} (h : (s.load l).state.holding = true)
    (ha : s.halted = true → (s.load l).state.halted = true → a = .idle) : Booked s (trip l a s) :=
  (enterDescending_booked h ha).trans ((Booked.of_aside (.post _ _)).trans (.foldl tripDescendant_booked _ _))

theorem shed_booked {v : Load} {s : State} (h : (s.load v).state.standing = true) : Booked s (shed v s) := by
  have hnoted := Aside.handOver (.shed v) s
  have hload : (handOver (.shed v) s).load v = s.load v := by rw [handOver_eq]; rfl
  refine (Booked.of_aside hnoted).trans (trip_booked ?_ fun _ hh => ?_)
  · rw [hload]
    exact LoadState.holding_of_standing h
  · rw [hload, LoadState.not_halted_of_standing h] at hh
    cases hh

theorem shedDown_booked (fuel : Nat) (s : State) : Booked s (shedDown fuel s) := by
  induction fuel generalizing s with
  | zero => exact .refl s
  | succ fuel ih =>
    unfold shedDown
    split
    · exact .refl s
    · split
      · exact .refl s
      next hv => exact (shed_booked (standing_of_victim hv)).trans (ih _)

/-- What the books do not rest on changes. -/
theorem Booked.of_eq {s t : State}
    (hframe : t.phase = s.phase ∧ t.unit = s.unit ∧ t.slotA = s.slotA ∧ t.slotB = s.slotB ∧ t.halted = s.halted)
    (hconfig : t.config = s.config) (hl : t.loads = s.loads) (hh : t.holders = s.holders) (hq : t.queue = s.queue)
    (hr : t.resume = s.resume) : Booked s t := by
  refine .of_moved hframe hconfig hh hq (fun _ h => hr.trans h) fun l => ?_
  have hload : t.load l = s.load l := by rw [State.load, State.load, hl]
  exact hload ▸ .refl _

theorem recomputeCeiling_booked (s : State) : Booked s (recomputeCeiling s) := by
  have hset : Booked s { s with ceiling := s.ceilingNow } := .of_eq ⟨rfl, rfl, rfl, rfl, rfl⟩ rfl rfl rfl rfl rfl
  unfold recomputeCeiling
  dsimp only
  split
  · exact .refl s
  · split
    · exact hset.trans ((shedDown_booked 12 _).trans (.of_aside (.noteMode _ _)))
    · exact hset.trans ((Booked.of_aside (.noteMode _ _)).trans (grantPass_booked _))

/-! ## The arbiter -/

theorem takeLoadUp_booked (l : Load) (s : State) : Booked s (takeLoadUp l s) := by
  unfold takeLoadUp
  split
  case h_1 h =>
    have hup : Booked s (s.setLoad l { s.load l with
        state := .up
        stable := .running ((s.loadConfig l).stableTime.toNat * 100) }) :=
      .setLoad (LoadRun.stand_moved (by rw [h]; rfl) rfl fun _ _ => rfl)
    exact hup.trans ((Booked.of_aside (.handOver _ _)).trans (grantPass_booked _))
  all_goals exact .refl s

/-- A load has a further attempt behind it only below its limit (R87, R88). -/
theorem lt_limit_of_afterDescent {a : After} {n : Nat} {limit : Fin 8} (h : afterDescent a n limit = .cooling) : n < 7 := by
  cases a <;> simp only [afterDescent] at h
  · cases h
  · cases h
  · split at h
    next hlt => omega
    next => cases h

/-- The load leaves the holder list and enters the state its descent leads to (R18, R19). -/
theorem settleLoad_booked {l : Load} {a : After} {s t : State} (h : (s.load l).state = .descending a)
    (ht : t = { s with
      holders := s.holders.filter fun h => h.load != l, posted := t.posted, fifo := t.fifo, sources := t.sources })
    (limit : Fin 8) : Booked s (settleLoad l (afterDescent a (s.load l).attempts limit) t) := by
  have hload (x : Load) : t.load x = s.load x := by rw [ht]; rfl
  have hleaves (r : LoadRun) (hr : r.state ∉ [LoadState.absorbed, .void]) (hh : r.state.holding = false)
      (hq : r.state ≠ .queued) (hsound : (s.load l).sound → r.sound) (hhalt : s.halted = true → r.state.halted = true) :
      Booked s (t.setLoad l r) := by
    have hset : s.loadsSet (t.setLoad l r) l r := fun x => by rw [State.setLoad_load, hload]
    rw [ht] at hset ⊢
    exact .rebook ⟨rfl, rfl, rfl, rfl, rfl⟩ rfl hset (by simp [h]) hr hsound (holdersSound_leave hset rfl hh)
      (queueSound_set hset rfl (by simp [h, hq])) fun hs => ⟨hhalt hs, id, id, List.filter_sublist⟩
  have hkept (st : LoadState) (hst : st ≠ .cooling) (hne : st ≠ .idle ∧ st ≠ .absorbed ∧ st ≠ .void) (hs : (s.load l).sound) :
      LoadRun.sound { s.load l with state := st } := by
    obtain ⟨hcool, hstable, hatt, -⟩ := hs
    rw [h] at hcool hstable
    exact ⟨by simpa [hst] using hcool, fun hr => absurd (hstable hr) nofun, hatt, by simp [hne]⟩
  have hnot (ha : a ≠ .idle) (hb : Books s) : s.halted = false := by
    refine hb.not_halted (l := l) ?_
    rw [h]
    cases a
    · exact absurd rfl ha
    all_goals rfl
  cases hn : afterDescent a (s.load l).attempts limit with
  | idle => exact hleaves _ (by simp [LoadRun.intoIdle]) rfl nofun (fun _ => LoadRun.intoIdle_sound _) fun _ => rfl
  | locked =>
    simp only [settleLoad, hload]
    exact hleaves _ (by simp) rfl nofun (hkept .locked nofun (by simp)) fun _ => rfl
  | cooling =>
    have ha : a ≠ .idle := by rintro rfl; cases hn
    refine .of_books ?_ ?_ fun hb => ?_
    · rw [ht]
      exact ⟨rfl, rfl, rfl, rfl, rfl⟩
    · rw [ht]
      exact fun _ => List.filter_sublist
    · simp only [settleLoad, hload]
      refine hleaves _ (by simp) rfl nofun (fun hs => ?_) fun hh => absurd ((hnot ha hb).symm.trans hh) nofun
      obtain ⟨-, hstable, -, -⟩ := hs
      rw [h] at hstable
      have hlt := lt_limit_of_afterDescent hn
      exact ⟨by simp, fun hr => absurd (hstable hr) nofun, by dsimp only; omega, by simp⟩
  | queued =>
    have ha : a ≠ .idle := by rintro rfl; cases hn
    refine .of_books ?_ ?_ fun hb => ?_
    · rw [ht]
      exact ⟨rfl, rfl, rfl, rfl, rfl⟩
    · rw [ht]
      exact fun _ => List.filter_sublist
    · have hset : s.loadsSet (enqueue .requeue l t) l { s.load l with state := .queued } := fun x => by
        rw [enqueue_load, hload, hload]
      simp only [settleLoad]
      rw [enqueue_eq, ht] at hset ⊢
      exact .rebook ⟨rfl, rfl, rfl, rfl, rfl⟩ rfl hset (by simp [h]) (by simp) (hkept .queued nofun (by simp))
        (holdersSound_leave hset rfl rfl) (queueSound_insert hset rfl rfl (by rw [h]; exact nofun))
        fun hh => absurd ((hnot ha hb).symm.trans hh) nofun

theorem continueDescent_booked (l : Load) (s : State) : Booked s (continueDescent l s) := by
  unfold continueDescent
  split
  case h_1 =>
    split
    · split
      · exact select_booked s
      · exact .of_eq ⟨rfl, rfl, rfl, rfl, rfl⟩ rfl rfl rfl rfl rfl
    · exact .refl s
  case h_2 => exact select_booked s
  all_goals exact .refl s

theorem takeDescentEnded_booked (l : Load) (s : State) : Booked s (takeDescentEnded l s) := by
  unfold takeDescentEnded
  split
  case h_1 h =>
    dsimp only
    refine (settleLoad_booked h ?_ _).trans
      ((Booked.of_aside (.noteMode _ _)).trans ((grantPass_booked _).trans (continueDescent_booked l _)))
    rw [handOver_eq]
    rfl
  all_goals exact .refl s

theorem takeDrainEnded_booked (l : Load) (s : State) : Booked s (takeDrainEnded l s) := by
  unfold takeDrainEnded
  split
  case h_1 h => exact descendInOrder_booked .idle (by rw [h]; rfl)
  all_goals exact .refl s

theorem takeFaultReport_booked (c : Chan) (s : State) : Booked s (takeFaultReport c s) := by
  unfold takeFaultReport
  dsimp only
  split
  next a ha =>
    refine trip_booked ?_ fun _ hh => ?_
    · cases hst : (s.load (s.config.servedLoad c)).state with
      | descending b => rfl
      | _ => rw [hst] at ha; cases ha <;> rfl
    · cases hst : (s.load (s.config.servedLoad c)).state with
      | descending b =>
        rw [hst] at ha hh
        cases b <;> cases ha <;> cases hh
        rfl
      | _ => rw [hst] at ha hh; cases ha <;> cases hh
  next => exact .refl s

theorem takeCoolDownExpiry_booked (l : Load) (s : State) : Booked s (takeCoolDownExpiry l s) := by
  unfold takeCoolDownExpiry
  split
  case h_1 h _ =>
    refine Booked.trans ?_ (grantPass_booked _)
    refine .of_books ⟨rfl, rfl, rfl, rfl, rfl⟩ (fun _ => List.Sublist.refl _) fun hb => ?_
    have hhalted : s.halted = false := hb.not_halted (l := l) (by rw [h]; rfl)
    have hset : s.loadsSet (enqueue .retry l (s.setLoad l { s.load l with cooling := .stopped })) l
        { s.load l with state := .queued, cooling := .stopped } := fun x => by
      rw [enqueue_load, State.setLoad_load_self, State.setLoad_load]
      split <;> rfl
    refine .rebook ⟨rfl, rfl, rfl, rfl, rfl⟩ rfl hset (by simp [h]) (by simp) (fun hs => ?_)
      (holdersSound_set hset rfl (by rw [h]; rfl)) (queueSound_insert hset rfl rfl (by rw [h]; exact nofun)) (by simp [hhalted])
    obtain ⟨-, hstable, hatt, -⟩ := hs
    rw [h] at hstable
    exact ⟨by simp, fun hr => absurd (hstable hr) nofun, hatt, by simp⟩
  case h_2 => exact .refl s

theorem takeStableExpiry_booked (l : Load) (s : State) : Booked s (takeStableExpiry l s) := by
  unfold takeStableExpiry
  split
  · refine .setLoad ⟨rfl, fun _ => id, fun hs => ?_, id⟩
    obtain ⟨hcool, -, -, -⟩ := hs
    exact ⟨hcool, fun h => absurd rfl h, Nat.zero_le _, fun _ => rfl⟩
  · exact .refl s

theorem takeSpacingExpiry_booked (s : State) : Booked s (takeSpacingExpiry s) := by
  unfold takeSpacingExpiry
  split
  · exact select_booked s
  all_goals exact .refl s

/-! ## Events in the order sent -/

theorem deliver_booked (i : Instr) (s : State) : Booked s (deliver i s) := by
  cases i with
  | startRamp c => exact .of_aside (channelStart_aside c s)
  | waitTurn c => exact .of_aside (channelWait_aside c s)
  | fall c => exact .of_aside (channelFall_aside c s)
  | cancelTurn c => exact .of_aside (channelCancel_aside c s)
  | grantHandover l => exact .of_aside (takeGrant_aside l s)
  | orderlyDescentOrder l => exact .of_aside (takeOrderlyOrder_aside l s)
  | tripOrder l => exact .of_aside (takeTripOrder_aside l s)
  | returnReport l => exact .of_aside (takeReturn_aside l s)
  | cancelDrain l => exact .of_aside (takeCancelDrain_aside l s)
  | channelOn c => exact .of_aside (takeChannelOn_aside c s)
  | fallComplete c => exact .of_aside (takeFallComplete_aside c s)
  | loadUp l => exact takeLoadUp_booked l s
  | descentEnded l => exact takeDescentEnded_booked l s
  | drainEnded l => exact takeDrainEnded_booked l s
  | faultReport c _ => exact takeFaultReport_booked c s
  | autoRequest l => exact takeRequest_booked .auto l s
  | autoRelease l => exact releaseLoad_booked l s
  | bootRequest l => exact takeRequest_booked .boot l s
  | _ => exact .refl s

theorem serve_booked (s : State) (i : Instr) : Booked s (serve s i) :=
  (Booked.of_aside (.consume s i)).trans (deliver_booked i _)

theorem takeInOrder_booked {i : Instr} {s t : State} (h : takeInOrder i s = .next t) : Booked s t :=
  takeInOrder_keeps (P := Booked s) (fun hs => hs.trans (.of_aside (.post s i))) (fun hs => hs.trans (.of_aside (.consume s i)))
    (fun j u _ hu => hu.trans (serve_booked u j)) h (.refl s)

theorem settleFor_booked (p : Instr → DetectSource → Bool) (s : State) : Booked s (settleFor p s) :=
  settleFor_keeps (P := Booked s) (fun j u _ hu => hu.trans (serve_booked u j)) (.refl s)

end Sys2Proof.Machine
end

section
/-! The membership: which loads it offers, and what a write to a slot makes of it (R1, R5, R62 to R64). -/

namespace Sys2Proof.Machine

theorem mem_allGroups (g : Group) : g ∈ allGroups := by
  revert g
  decide

theorem loadKind_ownLoad (c : Chan) : loadKind (ownLoad c) = .inl c := by
  have hlt : (ownLoad c).val < 8 := c.isLt
  simp [loadKind, ownLoad]

theorem loadKind_groupLoad (g : Group) : loadKind (groupLoad g) = .inr g := by
  have hge : ¬(groupLoad g).val < 8 := by simp [groupLoad]
  simp [loadKind, groupLoad]

/-- Every load stands for a channel or for a group (R1). -/
theorem load_cases (l : Load) : (∃ c, l = ownLoad c) ∨ ∃ g, l = groupLoad g := by
  by_cases h : l.val < 8
  · exact .inl ⟨⟨l.val, h⟩, rfl⟩
  · have hlt := l.isLt
    exact .inr ⟨⟨l.val - 8, by omega⟩, Fin.ext (by simp only [groupLoad]; omega)⟩

namespace Image

variable {img : Image}

/-- The members of a group. -/
abbrev membersOf (img : Image) (g : Group) : List Chan := (img.groups[g]).members

theorem groupOf_isSome {c : Chan} : (img.groupOf c).isSome = true ↔ ∃ g, c ∈ img.membersOf g := by
  simp only [groupOf, List.find?_isSome, mem_allGroups, true_and, List.contains_iff_mem]

theorem groupOf_eq_none {c : Chan} : img.groupOf c = none ↔ ∀ g, c ∉ img.membersOf g := by
  rw [← Option.isNone_iff_eq_none, ← Option.not_isSome, Bool.not_eq_true', ← Bool.not_eq_true, groupOf_isSome, not_exists]

theorem offered_ownLoad {c : Chan} : img.offered (ownLoad c) = false ↔ ∃ g, c ∈ img.membersOf g := by
  unfold offered
  rw [loadKind_ownLoad, ← groupOf_isSome]
  cases h : img.groupOf c <;> simp [h]

theorem offered_groupLoad {g : Group} : img.offered (groupLoad g) = false ↔ img.membersOf g = [] := by
  unfold offered
  rw [loadKind_groupLoad]
  simp only [Bool.not_eq_false', List.isEmpty_iff]

/-- A channel is a member at one place only (R62). -/
theorem sound_iff : img.sound ↔
    (∀ g, (img.membersOf g).Nodup) ∧ (∀ g h c, c ∈ img.membersOf g → c ∈ img.membersOf h → g = h)
      ∧ ∀ c : Chan, (img.channels[c]).claim ≠ 0 := by
  have hgroups : allGroups.Nodup := by decide
  unfold sound memberships
  rw [List.nodup_flatMap, and_assoc]
  refine and_congr ⟨fun h g => h g (mem_allGroups g), fun h g _ => h g⟩ (and_congr ⟨fun h g k c hg hk => ?_, fun h => ?_⟩ Iff.rfl)
  · by_contra hne
    have hsymm : Std.Symm (Function.onFun List.Disjoint fun g : Group => (img.groups[g]).members) := ⟨fun _ _ hd => hd.symm⟩
    exact h.forall (mem_allGroups g) (mem_allGroups k) hne hg hk
  · exact hgroups.imp fun {g k} hne c hg hk => hne (h g k c hg hk)

/-- The members after a group record has been replaced. -/
theorem membersOf_set (img : Image) (g h : Group) (r : GroupConfig) :
    ({ img with groups := img.groups.set g r } : Image).membersOf h = if h = g then r.members else img.membersOf h := by
  have hset : (img.groups.set g r)[h] = if g.val = h.val then r else img.groups[h] := Vector.getElem_set _ _
  unfold membersOf
  rw [show ({ img with groups := img.groups.set g r } : Image).groups = img.groups.set g r from rfl, hset]
  by_cases hgh : h = g
  · simp [hgh]
  · simp [hgh, Fin.ext_iff.not.mp (Ne.symm hgh)]

end Image

/-! ## A channel in a slot, and a slot emptied -/

/-- The member list after a channel has been written into slot k (R63). -/
def placed (ms : List Chan) (k : Nat) (c : Chan) : List Chan := if k < ms.length then ms.set k c else ms ++ [c]

section
variable {ms : List Chan} {k : Nat} {c d : Chan}

theorem mem_placed_self : c ∈ placed ms k c := by
  unfold placed
  split
  next h => exact List.mem_set h c
  next => simp

theorem mem_of_mem_placed (h : d ∈ placed ms k c) : d ∈ ms ∨ d = c := by
  unfold placed at h
  split at h
  · exact List.mem_or_eq_of_mem_set h
  · simpa using h

theorem placed_nodup (h : ms.Nodup) (hc : c ∉ ms) : (placed ms k c).Nodup := by
  unfold placed
  split
  · exact h.set hc
  · rw [← List.concat_eq_append]
    exact h.concat hc

/-- Only the member that stood in the slot leaves the list. -/
theorem mem_placed_iff (h : ms.Nodup) (hdc : d ≠ c) : d ∈ placed ms k c ↔ d ∈ ms ∧ ms[k]? ≠ some d := by
  unfold placed
  split
  next hk =>
    simp only [List.mem_iff_getElem?, List.getElem?_set]
    constructor
    · rintro ⟨i, hi⟩
      split at hi
      next hik => simp_all
      next hik =>
        refine ⟨⟨i, hi⟩, fun hkd => hik ?_⟩
        exact (List.getElem?_inj hk h).mp (hkd.trans hi.symm)
    · rintro ⟨⟨i, hi⟩, hne⟩
      refine ⟨i, ?_⟩
      rw [if_neg]
      · exact hi
      · rintro rfl
        exact hne hi
  next hk =>
    rw [List.getElem?_eq_none (Nat.le_of_not_lt hk)]
    simp [hdc]

end

section
variable {s : State} {g : Group} {k : Slot8} {c : Chan}

theorem joined_membersOf (h : Group) :
    (joined s g k c).config.membersOf h = if h = g then placed (s.config.membersOf g) k.val c else s.config.membersOf h :=
  Image.membersOf_set _ _ _ _

theorem truncated_membersOf (h : Group) :
    (truncated s g k).config.membersOf h = if h = g then (s.config.membersOf g).take k.val else s.config.membersOf h :=
  Image.membersOf_set _ _ _ _

theorem joined_load (x : Load) : (joined s g k c).load x = joinedLoad s g k c x := Vector.getElem_ofFn x.isLt

theorem truncated_load (x : Load) : (truncated s g k).load x =
    if k.val = 0 ∧ x = groupLoad g then .fresh .void
    else if ∃ d ∈ (s.config.membersOf g).drop k.val, x = ownLoad d then .fresh .idle
    else s.load x := Vector.getElem_ofFn x.isLt

theorem joined_config_sound (hs : s.config.sound) (hc : s.config.groupOf c = none) : (joined s g k c).config.sound := by
  obtain ⟨hnodup, hone, hclaim⟩ := Image.sound_iff.mp hs
  have hout := Image.groupOf_eq_none.mp hc
  refine Image.sound_iff.mpr ⟨fun h => ?_, fun h i d hh hi => ?_, hclaim⟩
  · rw [joined_membersOf]
    split
    · exact placed_nodup (hnodup g) (hout g)
    · exact hnodup h
  · rw [joined_membersOf] at hh hi
    split at hh <;> split at hi
    next hhg hig => rw [hhg, hig]
    next hhg hig =>
      rcases mem_of_mem_placed hh with hd | rfl
      · exact hhg ▸ hone g i d hd hi
      · exact absurd hi (hout i)
    next hhg hig =>
      rcases mem_of_mem_placed hi with hd | rfl
      · exact hig ▸ hone h g d hh hd
      · exact absurd hh (hout h)
    next => exact hone h i d hh hi

theorem truncated_config_sound (hs : s.config.sound) : (truncated s g k).config.sound := by
  obtain ⟨hnodup, hone, hclaim⟩ := Image.sound_iff.mp hs
  have hsub {h : Group} : ((truncated s g k).config.membersOf h).Sublist (s.config.membersOf h) := by
    rw [truncated_membersOf]
    split
    next hh => exact hh ▸ List.take_sublist _ _
    next => exact List.Sublist.refl _
  exact Image.sound_iff.mpr ⟨fun h => (hnodup h).sublist hsub, fun h i d hh hi => hone h i d (hsub.subset hh) (hsub.subset hi), hclaim⟩

/-- Which channels are members after a channel has been written into a slot. -/
theorem joined_offered_ownLoad (hs : s.config.sound) (d : Chan) :
    (joined s g k c).config.offered (ownLoad d) = false ↔
      d = c ∨ s.config.offered (ownLoad d) = false ∧ (s.config.membersOf g)[k.val]? ≠ some d := by
  obtain ⟨hnodup, hone, -⟩ := Image.sound_iff.mp hs
  rw [Image.offered_ownLoad, Image.offered_ownLoad]
  by_cases hdc : d = c
  · subst hdc
    exact iff_of_true ⟨g, by rw [joined_membersOf, if_pos rfl]; exact mem_placed_self⟩ (.inl rfl)
  · rw [or_iff_right hdc]
    constructor
    · rintro ⟨h, hd⟩
      rw [joined_membersOf] at hd
      split at hd
      next hh =>
        obtain ⟨hd, hk⟩ := (mem_placed_iff (hnodup g) hdc).mp hd
        exact ⟨⟨g, hd⟩, hk⟩
      next hh => exact ⟨⟨h, hd⟩, fun hk => hh (hone h g d hd (List.mem_of_getElem? hk))⟩
    · rintro ⟨⟨h, hd⟩, hk⟩
      refine ⟨h, ?_⟩
      rw [joined_membersOf]
      split
      next hh => exact (mem_placed_iff (hnodup g) hdc).mpr ⟨hh ▸ hd, hk⟩
      next => exact hd

theorem joined_offered_groupLoad (h : Group) :
    (joined s g k c).config.offered (groupLoad h) = false ↔ h ≠ g ∧ s.config.offered (groupLoad h) = false := by
  rw [Image.offered_groupLoad, Image.offered_groupLoad, joined_membersOf]
  split
  next hh => exact iff_of_false (fun hn => absurd (hn ▸ mem_placed_self : c ∈ []) List.not_mem_nil) fun hne => hne.1 hh
  next hh => exact (and_iff_right hh).symm

theorem truncated_offered_ownLoad (hs : s.config.sound) (d : Chan) :
    (truncated s g k).config.offered (ownLoad d) = false ↔
      s.config.offered (ownLoad d) = false ∧ d ∉ (s.config.membersOf g).drop k.val := by
  obtain ⟨hnodup, hone, -⟩ := Image.sound_iff.mp hs
  have hdisj : List.Disjoint ((s.config.membersOf g).take k.val) ((s.config.membersOf g).drop k.val) :=
    List.disjoint_take_drop (hnodup g) (Nat.le_refl _)
  rw [Image.offered_ownLoad, Image.offered_ownLoad]
  constructor
  · rintro ⟨h, hd⟩
    rw [truncated_membersOf] at hd
    split at hd
    next => exact ⟨⟨g, List.mem_of_mem_take hd⟩, fun hdrop => hdisj hd hdrop⟩
    next hh => exact ⟨⟨h, hd⟩, fun hdrop => hh (hone h g d hd (List.mem_of_mem_drop hdrop))⟩
  · rintro ⟨⟨h, hd⟩, hdrop⟩
    refine ⟨h, ?_⟩
    rw [truncated_membersOf]
    split
    next hh =>
      subst hh
      rw [← List.take_append_drop k.val (s.config.membersOf h), List.mem_append] at hd
      exact hd.resolve_right hdrop
    next => exact hd

theorem truncated_offered_groupLoad (hk : k.val < (s.config.membersOf g).length) (h : Group) :
    (truncated s g k).config.offered (groupLoad h) = false ↔
      (h = g ∧ k.val = 0) ∨ h ≠ g ∧ s.config.offered (groupLoad h) = false := by
  rw [Image.offered_groupLoad, Image.offered_groupLoad, truncated_membersOf]
  split
  next hh =>
    rw [List.take_eq_nil_iff]
    have hne : s.config.membersOf g ≠ [] := by rintro hn; simp [hn] at hk
    simp [hh, hne]
  next hh => simp [hh]

end

end Sys2Proof.Machine
end

section
/-! Every command keeps holder list, wait queue, membership and load states in agreement (R5, R9, R23, R126), and each load's timers
and attempts with its state (R3, R5, R6). -/

namespace Sys2Proof.Machine

/-- From one state to the other the account is kept, and the load timers with it. -/
structure Accounted (s t : State) : Prop where
  account : s.accountSound → t.accountSound
  timers : s.accountSound → s.timersSound → t.timersSound

/-! ## What the account rests on -/

theorem accountSound_iff_of_running {s : State} (h : s.running = true) : s.accountSound ↔
    (s.slotA.image.sound ∧ s.slotB.image.sound ∧ s.unit.image.sound) ∧ Books s ∧ s.revertSound := by
  constructor
  · rintro ⟨⟨hc, hslots⟩, hh, hq, hm, hhalt, hr, -⟩
    exact ⟨hslots, ⟨hc, hh, hq, hm h, hhalt⟩, hr⟩
  · rintro ⟨hslots, ⟨hc, hh, hq, hm, hhalt⟩, hr⟩
    exact ⟨⟨hc, hslots⟩, hh, hq, fun _ => hm, hhalt, hr, fun hidle => absurd (h.symm.trans hidle) nofun⟩

theorem State.takesCommands.running {s : State} (h : s.takesCommands) : s.running = true :=
  (running_iff s).mpr ⟨h.1, by rw [h.2]; rfl⟩

/-- The parts of the state that the account rests on, less the load states and the sources of the detect unit's events. -/
def State.ledger (s : State) : Image × Slot × Slot × UnitState × PowerPhase × List Holder × List Entry × Bool × List Load :=
  (s.config, s.slotA, s.slotB, s.unit, s.phase, s.holders, s.queue, s.halted, s.resume)

namespace Accounted

variable {s t u : State}

theorem trans (h : Accounted s t) (k : Accounted t u) : Accounted s u :=
  ⟨k.account ∘ h.account, fun hs => k.timers (h.account hs) ∘ h.timers hs⟩

theorem of_booked (hrun : s.running = true) (h : Booked s t) : Accounted s t := by
  obtain ⟨hphase, hunit, ha, hb, hhalted⟩ := h.frame
  have hrun' : t.running = true := by
    rw [running_iff, hphase, hunit]
    exact (running_iff s).mp hrun
  refine ⟨fun hs => ?_, fun hs => h.timers ((accountSound_iff_of_running hrun).mp hs).2.1⟩
  obtain ⟨hslots, hbooks, hrevert⟩ := (accountSound_iff_of_running hrun).mp hs
  refine (accountSound_iff_of_running hrun').mpr ⟨by rw [ha, hb, hunit]; exact hslots, h.books hbooks, fun hr => ?_⟩
  obtain ⟨hh, hnil⟩ := hrevert (hunit.symm.trans hr)
  exact ⟨hhalted.trans hh, List.sublist_nil.mp (hnil ▸ h.holders_halted hh)⟩

/-- The load states and all else that the account rests on stay; the timers are for the caller. -/
theorem of_states (hl : t.ledger = s.ledger) (hsources : s.sources = [] → t.sources = [])
    (hstate : ∀ l, (t.load l).state = (s.load l).state) (htimers : ∀ l, (s.load l).sound → (t.load l).sound) : Accounted s t := by
  simp only [State.ledger, Prod.mk.injEq] at hl
  obtain ⟨hconfig, ha, hb, hunit, hphase, hholders, hqueue, hhalted, hresume⟩ := hl
  have hrun : t.running = s.running := by simp only [State.running, State.released, hphase, hunit]
  refine ⟨fun hs => ?_, fun _ hs l => htimers l (hs l)⟩
  obtain ⟨himages, hh, hq, hm, hhalt, hrevert, hstart⟩ := hs
  refine ⟨?_, ?_, ?_, ?_, ?_, ?_, ?_⟩
  · rw [State.imagesSound, hconfig, ha, hb, hunit]
    exact himages
  · exact holdersSound_of_holding hholders (fun l => by rw [hstate]) hh
  · exact queueSound_of_queued hqueue (fun l => by rw [hstate]) hq
  · intro hr l
    rw [hconfig, hstate]
    exact hm (hrun ▸ hr) l
  · intro hh
    obtain ⟨h1, h2, h3⟩ := hhalt (hhalted ▸ hh)
    exact ⟨hqueue ▸ h1, hresume ▸ h2, fun l => hstate l ▸ h3 l⟩
  · intro hr
    rw [hhalted, hholders]
    exact hrevert (hunit ▸ hr)
  · intro hr
    obtain ⟨h1, h2, h3, h4, h5⟩ := hstart (hrun ▸ hr)
    exact ⟨hunit ▸ h1, hsources h2, hholders ▸ h3, hqueue ▸ h4, fun l => hstate l ▸ h5 l⟩

theorem of_ledger (hl : t.ledger = s.ledger) (hloads : t.loads = s.loads) (hsources : s.sources = [] → t.sources = []) :
    Accounted s t := by
  have hload (l : Load) : t.load l = s.load l := by rw [State.load, State.load, hloads]
  exact of_states hl hsources (fun l => by rw [hload]) fun l => by rw [hload]; exact id

theorem refl (s : State) : Accounted s s := of_ledger rfl rfl id

/-- Being accounted for from a state on is a property that the mailbox does not bear on. -/
theorem robust (s : State) : Robust (Accounted s) := by
  refine ⟨fun t i h => h.trans (of_ledger rfl rfl fun hs => ?_), fun _ _ h => h.trans (of_ledger rfl rfl id),
    fun _ _ h => h.trans (of_ledger rfl rfl id), fun _ h => h.trans (of_ledger rfl rfl id)⟩
  rw [State.consume_sources, hs]
  split <;> rfl

theorem then_booked (h : Accounted s t) (hrun : t.running = true) (k : Booked t u) : Accounted s u :=
  h.trans (.of_booked hrun k)

end Accounted

/-! ## Configurations -/

theorem Image.factory_sound : Image.factory.sound := by
  have hempty (g : Group) : Image.factory.membersOf g = [] := by
    revert g
    decide
  refine Image.sound_iff.mpr ⟨fun g => ?_, fun g h c hc => ?_, by decide⟩
  · rw [hempty]
    exact List.nodup_nil
  · rw [hempty] at hc
    cases hc

/-- The configuration changes in what neither the membership nor the claims' bound rests on. -/
theorem Booked.of_config {s : State} {cfg : Image} (hsound : s.config.sound → cfg.sound)
    (hoffered : ∀ l, cfg.offered l = s.config.offered l) : Booked s { s with config := cfg } :=
  ⟨⟨rfl, rfl, rfl, rfl, rfl⟩, fun hb => ⟨hsound hb.config, hb.holders, hb.queue,
      fun l => membershipHolds_of_side (hoffered l) rfl (hb.membership l), hb.halt⟩,
    fun _ => id, fun _ _ => id, fun _ => List.Sublist.refl _⟩

/-! ## Standby, wake and the mailbox -/

theorem takeStandby_booked (s : State) : Booked s (takeStandby s) := by
  have hset : Booked s (setStby true s) := .of_eq ⟨rfl, rfl, rfl, rfl, rfl⟩ rfl rfl rfl rfl rfl
  have hnoted := hset.trans (.of_aside (.noteMode s.mode _))
  unfold takeStandby
  dsimp only
  split
  · exact .refl s
  · split
    · exact hnoted
    · exact hnoted.trans (select_booked _)

theorem replayLoad_booked (s : State) (l : Load) : Booked s (replayLoad s l) :=
  (judge_booked .wake l s).trans (.of_aside (.noteRefusal l _))

theorem takeWake_booked (s : State) : Booked s (takeWake s) := by
  have hset : Booked s (setStby false s) := .of_eq ⟨rfl, rfl, rfl, rfl, rfl⟩ rfl rfl rfl rfl rfl
  have hended (t : State) : Booked t { t with descent := .inactive } := .of_eq ⟨rfl, rfl, rfl, rfl, rfl⟩ rfl rfl rfl rfl rfl
  have hemptied (t : State) : Booked t { t with resume := [] } :=
    .of_moved ⟨rfl, rfl, rfl, rfl, rfl⟩ rfl rfl rfl (fun _ _ => rfl) fun _ => .refl _
  unfold takeWake
  dsimp only
  split
  · exact .refl s
  · exact (hset.trans (.of_aside (.noteMode s.mode _))).trans ((hended _).trans
      ((Booked.foldl replayLoad_booked _ _).trans ((hemptied _).trans (grantPass_booked _))))

theorem takeLowsup_booked (b : Bool) (s : State) : Booked s (takeLowsup b s) := by
  unfold takeLowsup
  split
  · have hset : Booked s { s with lowsup := s.lowsup.took b } := .of_eq ⟨rfl, rfl, rfl, rfl, rfl⟩ rfl rfl rfl rfl rfl
    exact hset.trans (recomputeCeiling_booked _)
  · exact .refl s

theorem setBudget_booked (s : State) : Booked s (setBudget s).2 := by
  unfold setBudget
  split
  · exact .refl s
  · have hset : Booked s { s with config := { s.config with full := argFull s, reduced := argReduced s } } :=
      .of_config id fun _ => rfl
    exact hset.trans (recomputeCeiling_booked _)

theorem setOvertake_booked (s : State) : Booked s (setOvertake s).2 := by
  unfold setOvertake
  split
  · exact .refl s
  · have hset : Booked s { s with config := { s.config with overtake := s.argCopy[0].toNat } } := .of_config id fun _ => rfl
    exact hset.trans (grantPass_booked _)

theorem declareOff_aside (s : State) : Aside s (declareOff s).2 := by
  unfold declareOff
  split
  · exact channelDeclareOff_aside _ s
  · exact .refl s

theorem clearFaults_aside (cs : List Chan) (s : State) : Aside s (clearFaults cs s) :=
  .foldl (f := fun t c => t.setChan c { t.chan c with lastFault := none }) (fun _ _ => .setChan fun hs hd => ⟨hs, hd⟩) cs s

/-- A LOCKED load enters IDLE. -/
theorem enterIdle_accounted_of_locked {l : Load} {s : State} (hrun : s.running = true) (h : (s.load l).state = .locked) :
    Accounted s (enterIdle l s) := by
  have hset : s.loadsSet (enterIdle l s) l (s.load l).intoIdle := State.loadsSet_set rfl
  have hstate (x : Load) : ((enterIdle l s).load x).state.side = (s.load x).state.side
      ∧ ((s.load x).state.halted = true → ((enterIdle l s).load x).state.halted = true) := by
    rw [hset x]
    split
    next hx =>
      rw [← hx, h]
      exact ⟨rfl, fun _ => rfl⟩
    next => exact ⟨rfl, id⟩
  refine ⟨fun hs => ?_, fun _ hs x => ?_⟩
  · obtain ⟨hslots, hb, hr⟩ := (accountSound_iff_of_running hrun).mp hs
    refine (accountSound_iff_of_running (s := enterIdle l s) hrun).mpr ⟨hslots, ⟨hb.config, ?_, ?_, fun x => ?_, fun hh => ?_⟩, hr⟩
    · exact holdersSound_set hset rfl (by rw [h]; rfl) hb.holders
    · exact queueSound_set hset rfl (by rw [h]; simp [LoadRun.intoIdle]) hb.queue
    · exact membershipHolds_of_side (s := s) rfl (hstate x).1 (hb.membership x)
    · obtain ⟨hq, hres, hst⟩ := hb.halt hh
      exact ⟨hq, hres, fun x => (hstate x).2 (hst x)⟩
  · rw [hset x]
    split
    · exact LoadRun.intoIdle_sound _
    · exact hs x

/-- A LOCKED load that is cleared enters IDLE; what is settled before leaves it LOCKED (R92, R151). -/
theorem clearLoad_accounted (l : Load) {s : State} (hrun : s.running = true) : Accounted s (clearLoad l s).2 := by
  unfold clearLoad
  split
  case h_1 hlocked =>
    dsimp only
    have hsettled := settleFor_booked (clearWaits s l) s
    have hrun' : (settleFor (clearWaits s l) s).running = true := (settleFor_served _ s).running_eq.trans hrun
    generalize settleFor (clearWaits s l) s = u at hsettled hrun'
    have hstays (hs : s.accountSound) : (u.load l).state = .locked :=
      hsettled.locked ((accountSound_iff_of_running hrun).mp hs).2.1 l hlocked
    have hs' := Accounted.of_booked hrun hsettled
    have hcleared : Accounted s (enterIdle l u) :=
      ⟨fun hs => (enterIdle_accounted_of_locked hrun' (hstays hs)).account (hs'.account hs),
        fun hs => (enterIdle_accounted_of_locked hrun' (hstays hs)).timers (hs'.account hs) ∘ hs'.timers hs⟩
    exact hcleared.then_booked hrun' (.of_aside ((clearFaults_aside _ _).trans (representLoad_aside l _)))
  all_goals exact .refl s

theorem resumeService_accounted {s : State} (hc : s.takesCommands) : Accounted s (resumeService s).2 := by
  unfold resumeService
  split
  · dsimp only
    have hserved := settleFor_served resumeWaits s
    have hsettled := Accounted.of_booked hc.running (settleFor_booked resumeWaits s)
    have hrun : (settleFor resumeWaits s).running = true := hserved.running_eq.trans hc.running
    have hready : (settleFor resumeWaits s).unit = .ready := hserved.unit_eq.trans hc.2
    generalize settleFor resumeWaits s = u at hsettled hrun hready
    have hresumed : Accounted u { u with halted := false } := by
      refine ⟨fun hu => ?_, fun _ => id⟩
      obtain ⟨hslots, hb, -⟩ := (accountSound_iff_of_running hrun).mp hu
      refine (accountSound_iff_of_running (s := { u with halted := false }) hrun).mpr
        ⟨hslots, ⟨hb.config, hb.holders, hb.queue, hb.membership, nofun⟩, fun hr => ?_⟩
      exact absurd (hready.symm.trans hr) nofun
    refine (hsettled.trans hresumed).then_booked hrun ?_
    refine (Booked.of_aside (.noteMode u.mode _)).trans (Booked.trans ?_ ((grantPass_booked _).trans
      (.of_aside (.foldl (represent_aside .resume) allChans _))))
    split
    · exact select_booked _
    · exact .refl _
  · exact .refl s

end Sys2Proof.Machine
end

section
/-! The profile store, the resets, HALT and the configuration space keep the account, and so does every command. -/

namespace Sys2Proof.Machine

/-! ## HALT -/

section
variable (r : LoadRun)

/-- HALT leaves every load in a state that HALTED admits (R126). -/
theorem LoadRun.halted_state : r.halted.state.halted = true := by
  obtain ⟨st, _, _, _⟩ := r
  cases st <;> rfl

theorem LoadRun.halted_not_queued : r.halted.state ≠ .queued := by
  obtain ⟨st, _, _, _⟩ := r
  cases st <;> exact nofun

theorem LoadRun.halted_side (h : r.state ≠ .queued) : r.halted.state.side = r.state.side := by
  obtain ⟨st, _, _, _⟩ := r
  cases st with
  | queued => exact absurd rfl h
  | _ => rfl

theorem LoadRun.halted_holding : r.halted.state.holding = r.state.holding := by
  obtain ⟨st, _, _, _⟩ := r
  cases st <;> rfl

theorem LoadRun.halted_of_idle (h : r.state = .idle) : r.halted = r := by rw [LoadRun.halted, h]

theorem LoadRun.halted_sound (h : r.sound) : r.halted.sound := by
  unfold LoadRun.halted
  split
  case h_1 hst | h_2 hst | h_3 hst | h_4 hst =>
    exact (LoadRun.intoDescending_moved (off := false) (by rw [hst]; rfl) nofun).sound h
  case h_5 | h_6 => exact r.intoIdle_sound
  all_goals exact h

end

/-- The state in which HALT leaves the arbiter, less its orders and its notice. -/
def halting (s : State) : State :=
  { s with loads := Vector.ofFn fun l => (s.load l).halted, queue := [], resume := [], descent := .inactive, halted := true }

theorem halting_accounted (s : State) : Accounted s (halting s) := by
  have hload (l : Load) : (halting s).load l = (s.load l).halted := Vector.getElem_ofFn l.isLt
  refine ⟨fun hs => ?_, fun _ hs l => ?_⟩
  · obtain ⟨himages, hh, hq, hm, -, hrevert, hstart⟩ := hs
    refine ⟨himages, holdersSound_of_holding (s := s) rfl (fun l => ?_) hh, ⟨List.nodup_nil, fun l => ?_, List.Pairwise.nil⟩,
      fun hr l => ?_, fun _ => ⟨rfl, rfl, fun l => ?_⟩, fun hr => ⟨rfl, (hrevert hr).2⟩, fun hr => ?_⟩
    · rw [hload, LoadRun.halted_holding]
    · rw [hload]
      exact iff_of_false List.not_mem_nil (LoadRun.halted_not_queued _)
    · by_cases hl : (s.load l).state = .queued
      · refine membershipHolds_of_member (s := s) (t := halting s) rfl (by simp [hl]) ?_ (hm hr l)
        rw [hload, LoadRun.halted, hl]
        exact ⟨nofun, nofun⟩
      · refine membershipHolds_of_side (s := s) (t := halting s) rfl ?_ (hm hr l)
        rw [hload]
        exact LoadRun.halted_side _ hl
    · rw [hload]
      exact LoadRun.halted_state _
    · obtain ⟨hu, hsrc, hn, -, hidle⟩ := hstart hr
      refine ⟨hu, hsrc, hn, rfl, fun l => ?_⟩
      rw [hload, LoadRun.halted_of_idle _ (hidle l)]
      exact hidle l
  · rw [hload]
    exact LoadRun.halted_sound _ (hs l)

theorem halt_accounted (s : State) : Accounted s (halt s) := by
  have hordered (is : List Instr) : Accounted s ((halting s).postAll is) :=
    (halting_accounted s).trans (.of_ledger rfl rfl id)
  have hnoted (t : State) (n : Notice) : Accounted t (handOver n t) := by
    rw [handOver_eq]
    exact .of_ledger rfl rfl id
  unfold halt
  dsimp only
  split
  · exact .refl s
  · split
    · exact hordered _
    · exact (hordered _).trans (hnoted _ _)

theorem writeControl_accounted (v : Byte) (s : State) : Accounted s (writeControl v s) := by
  have hstored : Accounted s { s with nie := v.getLsbD 0, die := v.getLsbD 1 } := .of_ledger rfl rfl id
  unfold writeControl
  dsimp only
  split
  · exact hstored.trans (halt_accounted _)
  · exact hstored

/-! ## The profile store -/

theorem LoadRun.fresh_sound {st : LoadState} (h : st ∈ [LoadState.idle, .absorbed, .void]) : (LoadRun.fresh st).sound := by
  simp only [List.mem_cons, List.not_mem_nil, or_false] at h
  rcases h with rfl | rfl | rfl <;> simp [LoadRun.sound, LoadRun.fresh]

theorem setSlot_config (s : State) (id : SlotId) (x : Slot) : (s.setSlot id x).config = s.config := by cases id <;> rfl

/-- The slots, the active marker and the command unit change in a part that runs, and every image stays sound. -/
theorem Accounted.of_store {s t : State} (hrun : s.running = true) (hrun' : t.running = true)
    (hrest : t = { s with
      slotA := t.slotA, slotB := t.slotB, active := t.active, shown := t.shown, unit := t.unit, result := t.result
      cmdDone := t.cmdDone })
    (himages : s.imagesSound → t.slotA.image.sound ∧ t.slotB.image.sound ∧ t.unit.image.sound)
    (hrevert : s.revertSound → t.revertSound) : Accounted s t := by
  have hbooks : Booked s { t with slotA := s.slotA, slotB := s.slotB, unit := s.unit } := by
    rw [hrest]
    exact .of_eq ⟨rfl, rfl, rfl, rfl, rfl⟩ rfl rfl rfl rfl rfl
  refine ⟨fun hs => ?_, fun hs ht => ?_⟩
  · have himg := himages hs.1
    obtain ⟨-, hb, hr⟩ := (accountSound_iff_of_running hrun).mp hs
    obtain ⟨hc, hh, hq, hm, hhalt⟩ := hbooks.books hb
    exact (accountSound_iff_of_running hrun').mpr ⟨himg, ⟨hc, hh, hq, hm, hhalt⟩, hrevert hr⟩
  · obtain ⟨-, hb, -⟩ := (accountSound_iff_of_running hrun).mp hs
    exact hbooks.timers hb ht

theorem running_of_ready {s t : State} (hs : s.running = true) (hp : t.phase = s.phase) (hu : t.unit = .ready) : t.running = true := by
  rw [running_iff, hp, hu]
  exact ⟨((running_iff s).mp hs).1, rfl⟩

/-- A long command completes in a part that runs (R146). -/
theorem completeLong_accounted {s : State} (hrun : s.running = true) (r : ResultCode) :
    Accounted s (completeLong r (showSlots s)) :=
  .of_store hrun (running_of_ready hrun rfl rfl) rfl (fun hi => ⟨hi.2.1, hi.2.2.1, Image.factory_sound⟩) fun _ => nofun

theorem setSlot_accounted {s : State} (hrun : s.running = true) (id : SlotId) (x : Slot) (hx : s.imagesSound → x.image.sound) :
    Accounted s (s.setSlot id x) := by
  cases id with
  | a => exact .of_store hrun hrun rfl (fun hi => ⟨hx hi, hi.2.2⟩) id
  | b => exact .of_store hrun hrun rfl (fun hi => ⟨hi.2.1, hx hi, hi.2.2.2⟩) id

theorem endSave_accounted (matched : Bool) {s : State} (hrun : s.running = true) : Accounted s (endSave matched s) := by
  have hactive {t : State} (i : SlotId) (ht : t.running = true) :
      Accounted t (completeLong .done (showSlots { t with active := some i })) :=
    Accounted.trans (t := { t with active := some i }) (.of_ledger rfl rfl id) (completeLong_accounted (s := { t with active := some i }) ht .done)
  unfold endSave
  split
  case h_1 buffer target generation hunit =>
    have hrun' (x : Slot) : (s.setSlot target x).running = true := (setSlot_running s target x).trans hrun
    dsimp only
    split
    · refine (setSlot_accounted hrun target _ fun hi => ?_).trans (hactive target (hrun' _))
      have hbuffer := hi.2.2.2
      rw [hunit] at hbuffer
      exact hbuffer
    · exact (setSlot_accounted hrun target _ fun _ => Image.factory_sound).trans (completeLong_accounted (hrun' _) .storeFault)
  all_goals exact .refl s

theorem endErase_accounted {s : State} (hrun : s.running = true) : Accounted s (endErase s) := by
  have herased : Accounted s { s with slotA := Slot.erased, slotB := Slot.erased, active := none } :=
    .of_store hrun hrun rfl (fun hi => ⟨Image.factory_sound, Image.factory_sound, hi.2.2.2⟩) id
  unfold endErase
  split
  · exact herased.trans (completeLong_accounted (s := { s with slotA := Slot.erased, slotB := Slot.erased, active := none }) hrun .done)
  all_goals exact .refl s

theorem revertSource_sound {s : State} (h : s.imagesSound) : (revertSource s).1.sound := by
  unfold revertSource
  split
  · exact Image.factory_sound
  next id _ =>
    split
    · cases id
      · exact h.2.1
      · exact h.2.2.1
    · exact Image.factory_sound

/-- The book of a load that a membership sets up anew: none, or ABSORBED or VOID. -/
theorem membershipHolds_of_regrouped {t : State} {l : Load}
    (hin : t.config.offered l = true → (t.load l).state ≠ .absorbed ∧ (t.load l).state ≠ .void)
    (hout : t.config.offered l = false → (t.load l).state = if l.val < 8 then .absorbed else .void) : t.membershipHolds l := by
  refine ⟨⟨hout, fun hst => ?_⟩, hin⟩
  rw [← Bool.not_eq_true]
  intro ho
  obtain ⟨ha, hv⟩ := hin ho
  split at hst
  · exact ha hst
  · exact hv hst

theorem withdrawn_mem {l : Load} : (if l.val < 8 then LoadState.absorbed else .void) ∈ [LoadState.idle, .absorbed, .void] := by
  split <;> simp

theorem regroupLoad_of_not_offered {img : Image} {l : Load} (r : LoadRun) (h : img.offered l = false) :
    regroupLoad img l r = .fresh (if l.val < 8 then .absorbed else .void) := by
  rw [regroupLoad, h]
  rfl

/-- A load in no list, regrouped (R5, R21). -/
theorem regroupLoad_of_offered {img : Image} {l : Load} {r : LoadRun} (h : img.offered l = true)
    (hr : r.state ∈ [LoadState.idle, .locked, .absorbed, .void]) :
    (regroupLoad img l r).state ∈ [LoadState.idle, .locked] ∧ (r.sound → (regroupLoad img l r).sound) := by
  obtain ⟨st, _, _, _⟩ := r
  simp only [List.mem_cons, List.not_mem_nil, or_false] at hr
  rcases hr with rfl | rfl | rfl | rfl <;> simp only [regroupLoad, h, if_true]
  · exact ⟨by simp, id⟩
  · exact ⟨by simp, id⟩
  · exact ⟨by simp [LoadRun.intoIdle], fun _ => LoadRun.intoIdle_sound _⟩
  · exact ⟨by simp [LoadRun.intoIdle], fun _ => LoadRun.intoIdle_sound _⟩

section
variable {st : LoadState} (h : st ∈ [LoadState.idle, .locked, .absorbed, .void])
include h

theorem not_holding_of_rest : st.holding = false := by
  simp only [List.mem_cons, List.not_mem_nil, or_false] at h
  rcases h with rfl | rfl | rfl | rfl <;> rfl

theorem not_queued_of_rest : st ≠ .queued := by
  rintro rfl
  simp at h

theorem halted_of_rest : st.halted = true := by
  simp only [List.mem_cons, List.not_mem_nil, or_false] at h
  rcases h with rfl | rfl | rfl | rfl <;> rfl

end

/-- A HALTED arbiter without holders: every load IDLE, LOCKED, ABSORBED or VOID (R126, R157). -/
theorem Books.at_rest {s : State} (h : Books s) (hh : s.halted = true) (hn : s.holders = []) (l : Load) :
    (s.load l).state ∈ [LoadState.idle, .locked, .absorbed, .void] := by
  have hhalted := (h.halt hh).2.2 l
  have hnot := h.holders.2.1 l
  rw [hn] at hnot
  cases hst : (s.load l).state <;> rw [hst] at hhalted hnot <;> simp_all [LoadState.halted, LoadState.holding]

/-- The reload of a REVERT, while its command still runs. -/
theorem reload_accounted {s : State} (hrun : s.running = true) (hhalted : s.halted = true) (hn : s.holders = []) :
    Accounted s (reloadConfig s) := by
  have hload (l : Load) : (reloadConfig s).load l = regroupLoad (revertSource s).1 l (s.load l) := Vector.getElem_ofFn l.isLt
  have hcases (hb : Books s) (l : Load) :
      (regroupLoad (revertSource s).1 l (s.load l)).state ∈ [LoadState.idle, .locked, .absorbed, .void]
        ∧ ((s.load l).sound → (regroupLoad (revertSource s).1 l (s.load l)).sound) := by
    cases ho : (revertSource s).1.offered l with
    | false =>
      rw [regroupLoad_of_not_offered _ ho]
      refine ⟨?_, fun _ => LoadRun.fresh_sound withdrawn_mem⟩
      simp only [LoadRun.fresh]
      split <;> simp
    | true =>
      obtain ⟨hst, hsound⟩ := regroupLoad_of_offered ho (hb.at_rest hhalted hn l)
      exact ⟨by simp only [List.mem_cons, List.not_mem_nil, or_false] at hst ⊢; tauto, hsound⟩
  refine ⟨fun hs => ?_, fun hs ht l => ?_⟩
  · have himages := hs.1
    obtain ⟨hslots, hb, hrevert⟩ := (accountSound_iff_of_running hrun).mp hs
    obtain ⟨hq, hres, -⟩ := hb.halt hhalted
    refine (accountSound_iff_of_running (s := reloadConfig s) hrun).mpr
      ⟨hslots, ⟨revertSource_sound himages, ?_, ?_, fun l => ?_, fun _ => ⟨hq, ?_, fun l => ?_⟩⟩, hrevert⟩
    · refine holdersSound_of_holding (s := s) rfl (fun l => ?_) hb.holders
      rw [hload, not_holding_of_rest (hcases hb l).1, not_holding_of_rest (hb.at_rest hhalted hn l)]
    · refine queueSound_of_queued (s := s) rfl (fun l => ?_) hb.queue
      rw [hload]
      exact iff_of_false (not_queued_of_rest (hcases hb l).1) (not_queued_of_rest (hb.at_rest hhalted hn l))
    · refine membershipHolds_of_regrouped (fun ho => ?_) fun ho => ?_
      · rw [hload]
        have := (regroupLoad_of_offered (img := (revertSource s).1) ho (hb.at_rest hhalted hn l)).1
        simp only [List.mem_cons, List.not_mem_nil, or_false] at this
        rcases this with h | h <;> rw [h] <;> exact ⟨nofun, nofun⟩
      · rw [hload, regroupLoad_of_not_offered (img := (revertSource s).1) _ ho]
        rfl
    · have hfilter : s.resume.filter (revertSource s).1.offered = [] := by simp [hres]
      exact hfilter
    · rw [hload]
      exact halted_of_rest (hcases hb l).1
  · rw [hload]
    exact (hcases ((accountSound_iff_of_running hrun).mp hs).2.1 l).2 (ht l)

theorem endRevert_accounted {s : State} (hrun : s.running = true) : Accounted s (endRevert s) := by
  unfold endRevert
  split
  case h_1 hunit =>
    dsimp only
    generalize (revertSource s).1 = img
    have hserved := (settleFor_served (fun i _ => isReturn i) s).trans
      (settleFor_served (fun i _ => requestFor (fun l => !img.offered l) i) _)
    have hbooked := (settleFor_booked (fun i _ => isReturn i) s).trans
      (settleFor_booked (fun i _ => requestFor (fun l => !img.offered l) i) _)
    generalize settleFor (fun i _ => requestFor (fun l => !img.offered l) i) (settleFor (fun i _ => isReturn i) s) = u at hserved hbooked
    have hrun' : u.running = true := hserved.running_eq.trans hrun
    have hsettled := Accounted.of_booked hrun hbooked
    have hreloaded : Accounted s (reloadConfig u) := by
      have hrest (hs : s.accountSound) : u.halted = true ∧ u.holders = [] :=
        (hsettled.account hs).2.2.2.2.2.1 (hserved.unit_eq.trans hunit)
      exact ⟨fun hs => (reload_accounted hrun' (hrest hs).1 (hrest hs).2).account (hsettled.account hs),
        fun hs => (reload_accounted hrun' (hrest hs).1 (hrest hs).2).timers (hsettled.account hs) ∘ hsettled.timers hs⟩
    have hrun'' : (reloadConfig u).running = true := hrun'
    generalize reloadConfig u = v at hreloaded hrun''
    exact (hreloaded.trans (completeLong_accounted hrun'' .done)).then_booked (running_of_ready hrun'' rfl rfl) (.of_aside (.foldl (represent_aside .revert) _ _))
  all_goals exact .refl s

end Sys2Proof.Machine
end

section
/-! The resets, the boot load, the configuration space and the clock keep the account, and so does every command. -/

namespace Sys2Proof.Machine

/-! ## The resets and the boot load -/

theorem resetState_load (phase : PowerPhase) (s : State) (l : Load) : (resetState phase s).load l = LoadRun.atReset := by
  have hload : (resetState phase s).load l = State.reset.load l := rfl
  rw [hload]
  exact Vector.getElem_replicate _

theorem resetState_account {phase : PowerPhase} {s : State} (ha : s.slotA.image.sound) (hb : s.slotB.image.sound) :
    (resetState phase s).accountSound ∧ (resetState phase s).timersSound := by
  have hidle (l : Load) : ((resetState phase s).load l).state = .idle := by rw [resetState_load]; rfl
  have hrun : (resetState phase s).running = false := by
    simp [State.running, resetState, State.reset, UnitState.isBooting]
  refine ⟨⟨⟨Image.factory_sound, ha, hb, Image.factory_sound⟩, ⟨List.nodup_nil, fun l => ?_, nofun⟩,
    ⟨List.nodup_nil, fun l => ?_, List.Pairwise.nil⟩, fun hr => absurd (hrun.symm.trans hr) nofun, nofun, nofun,
    fun _ => ⟨rfl, rfl, rfl, rfl, hidle⟩⟩, fun l => ?_⟩
  · rw [hidle]
    exact iff_of_false List.not_mem_nil nofun
  · rw [hidle]
    exact iff_of_false List.not_mem_nil nofun
  · rw [resetState_load]
    simp [LoadRun.sound, LoadRun.atReset]

theorem spoil_images (id : SlotId) (well : Bool) (s : State) :
    (spoil id well s).slotA.image = s.slotA.image ∧ (spoil id well s).slotB.image = s.slotB.image := by
  cases id <;> exact ⟨rfl, rfl⟩

/-- What an interruption leaves in the slots are images that were stored, or the one that was being stored (R193, R194). -/
theorem abandonStore_images (reached : StoreProgress) {s : State} (h : s.imagesSound) :
    (abandonStore reached s).slotA.image.sound ∧ (abandonStore reached s).slotB.image.sound := by
  obtain ⟨-, ha, hb, hunit⟩ := h
  have hspoiled {t : State} (id : SlotId) (well : Bool) (hta : t.slotA.image.sound) (htb : t.slotB.image.sound) :
      (spoil id well t).slotA.image.sound ∧ (spoil id well t).slotB.image.sound := by
    rw [(spoil_images id well t).1, (spoil_images id well t).2]
    exact ⟨hta, htb⟩
  unfold abandonStore
  split
  case h_1 target _ hu =>
    rw [hu] at hunit
    unfold abandonSave
    split
    case h_7 =>
      cases target
      · exact ⟨hunit, hb⟩
      · exact ⟨ha, hunit⟩
    all_goals exact hspoiled _ _ ha hb
  case h_2 =>
    unfold abandonErase
    split
    · exact hspoiled _ _ ha hb
    · exact hspoiled _ _ ha Image.factory_sound
  all_goals exact ⟨ha, hb⟩

theorem reset_accounted (phase : PowerPhase) (reached : StoreProgress) (s : State) :
    Accounted s (resetState phase (abandonStore reached s)) :=
  ⟨fun hs => (resetState_account (abandonStore_images reached hs.1).1 (abandonStore_images reached hs.1).2).1,
    fun hs _ => (resetState_account (abandonStore_images reached hs.1).1 (abandonStore_images reached hs.1).2).2⟩

theorem execResetRelease_accounted {s t : State} (h : execResetRelease s = .next t) : Accounted s t := by
  cases h
  split
  next hheld =>
    have hrun : s.running = false := by simp [State.running, State.released, hheld]
    refine ⟨fun hs => ?_, fun _ => id⟩
    obtain ⟨⟨hc, ha, hb, -⟩, hh, hq, -, hhalt, -, hstart⟩ := hs
    obtain ⟨-, hrest⟩ := hstart hrun
    exact ⟨⟨hc, ha, hb, Image.factory_sound⟩, hh, hq, fun hr => absurd hr (by simp [State.running, UnitState.isBooting]), hhalt, nofun,
      fun _ => ⟨rfl, hrest⟩⟩
  all_goals exact .refl s

theorem bootImage_sound {s : State} (h : s.imagesSound) (src : BootSource) : (bootImage s src).sound := by
  cases src
  · exact Image.factory_sound
  · exact h.2.1
  · exact h.2.2.1

theorem startLoad_of_offered {img : Image} {l : Load} (h : img.offered l = true) : startLoad img l = .fresh .idle := by
  rw [startLoad, h]
  rfl

theorem startLoad_of_not_offered {img : Image} {l : Load} (h : img.offered l = false) :
    startLoad img l = .fresh (if l.val < 8 then .absorbed else .void) := by
  rw [startLoad, h]
  rfl

theorem startLoad_mem (img : Image) (l : Load) :
    startLoad img l = .fresh .idle ∨ startLoad img l = .fresh .absorbed ∨ startLoad img l = .fresh .void := by
  cases h : img.offered l
  · rw [startLoad_of_not_offered h]
    split
    · exact .inr (.inl rfl)
    · exact .inr (.inr rfl)
  · exact .inl (startLoad_of_offered h)

/-- What the boot load leaves of the account, whatever the detect unit makes of the lines: loads in no list, set up by the membership
(R21, R191). -/
theorem booted_account {s t : State} (hs : s.accountSound) (hidle : s.running = false) (himages : t.imagesSound)
    (hloads : ∀ l, t.load l = startLoad t.config l) (hholders : t.holders = s.holders) (hqueue : t.queue = s.queue)
    (hhalted : t.halted = s.halted) (hresume : t.resume = s.resume) (hunit : t.unit = .ready) (hphase : t.phase = .released) :
    t.accountSound ∧ t.timersSound := by
  obtain ⟨-, -, -, -, hhalt, -, hstart⟩ := hs
  obtain ⟨-, -, hh, hq, -⟩ := hstart hidle
  have hrest (l : Load) : (t.load l).state ∈ [LoadState.idle, .locked, .absorbed, .void] := by
    rw [hloads]
    rcases startLoad_mem t.config l with h | h | h <;> rw [h] <;> simp [LoadRun.fresh]
  have hrun : t.running = true := (running_iff t).mpr ⟨hphase, by rw [hunit]; rfl⟩
  have hholders : t.holders = [] := hholders.trans hh
  have hqueue : t.queue = [] := hqueue.trans hq
  refine ⟨⟨himages, ?_, ?_, fun _ l => membershipHolds_of_regrouped (fun ho => ?_) fun ho => ?_, fun hh => ?_, fun hr => ?_,
    fun hi => absurd (hrun.symm.trans hi) nofun⟩, fun l => ?_⟩
  · unfold State.holdersSound
    rw [hholders]
    refine ⟨List.nodup_nil, fun l => ?_, nofun⟩
    rw [not_holding_of_rest (hrest l)]
    exact iff_of_false List.not_mem_nil nofun
  · unfold State.queueSound
    rw [hqueue]
    exact ⟨List.nodup_nil, fun l => iff_of_false List.not_mem_nil (not_queued_of_rest (hrest l)), List.Pairwise.nil⟩
  · rw [hloads, startLoad_of_offered ho]
    exact ⟨nofun, nofun⟩
  · rw [hloads, startLoad_of_not_offered ho]
    rfl
  · obtain ⟨-, hres, -⟩ := hhalt (hhalted ▸ hh)
    exact ⟨hqueue, hresume.trans hres, fun l => halted_of_rest (hrest l)⟩
  · exact absurd (hunit.symm.trans hr) nofun
  · rw [hloads]
    rcases startLoad_mem t.config l with h | h | h <;> rw [h] <;> exact LoadRun.fresh_sound (by simp)

theorem endBoot_accounted {s : State} (hidle : s.running = false) (hphase : s.phase = .released) : Accounted s (endBoot s) := by
  have hbooted (hs : s.accountSound) : (endBoot s).accountSound ∧ (endBoot s).timersSound := by
    obtain ⟨_, _, _, _, hdetect⟩ := bootDetect_changes (bootArbiter (bootStore s))
    have hstore : ∃ fs sh, bootStore s = { s with
        config := bootImage s (bootSource s), active := bootActive (bootSource s), shown := sh, fifo := fs } := by
      unfold bootStore
      rw [handOver_eq]
      exact ⟨_, _, rfl⟩
    obtain ⟨fs, sh, hstore⟩ := hstore
    have hsound := bootImage_sound hs.1 (bootSource s)
    unfold endBoot
    dsimp only
    rw [hdetect, hstore]
    refine booted_account hs hidle ⟨?_, hs.1.2.1, hs.1.2.2.1, Image.factory_sound⟩ (fun l => ?_) rfl rfl rfl rfl rfl ?_
    · exact hsound
    · exact Vector.getElem_ofFn l.isLt
    · exact hphase
  exact ⟨fun hs => (hbooted hs).1, fun hs _ => (hbooted hs).2⟩

/-! ## The clock -/

theorem tick_load (s : State) (l : Load) : (tick s).load l = (s.load l).tick := Vector.getElem_ofFn l.isLt

theorem LoadRun.tick_sound {r : LoadRun} (h : r.sound) : r.tick.sound := by
  simpa [LoadRun.sound, LoadRun.tick, Timer.tick_stopped] using h

theorem tick_accounted (s : State) : Accounted s (tick s) := by
  refine .of_states rfl id (fun l => ?_) fun l hl => ?_
  · rw [tick_load]
    rfl
  · rw [tick_load]
    exact LoadRun.tick_sound hl

/-! ## Writes to the configuration space -/

/-- A write that passes the checks finds a configuration that is not being loaded (R181, R183). -/
theorem checkField_of_checkWrite {s : State} {loc : Location} {v : Byte} (h : checkWrite s loc v = none) :
    s.loading = false ∧ checkField s loc v = none := by
  unfold checkWrite at h
  split at h
  · cases h
  next hl =>
    split at h
    · cases h
    · split at h
      · cases h
      · exact ⟨Bool.eq_false_iff.mpr hl, h⟩

/-- A record of a channel takes a claim of at least 1 BU. -/
theorem setChanConfig_booked {s : State} {c : Chan} {r : ChannelConfig} (h : (s.chanConfig c).claim ≠ 0 → r.claim ≠ 0) :
    Booked s (setChanConfig c r s) := by
  refine .of_config (fun hs => ⟨hs.1, fun d => ?_⟩) fun _ => rfl
  have hset : (s.config.channels.set c r)[d] = if c.val = d.val then r else s.config.channels[d] := Vector.getElem_set _ _
  have hd : ((s.config.channels.set c r)[d]).claim ≠ 0 := by
    rw [hset]
    split
    · exact h (hs.2 c)
    · exact hs.2 d
  exact hd

theorem writeChan_booked {s : State} {c : Chan} {f : ChanField} {v : Byte} (h : checkField s (.chan c f) v = none) :
    Booked s (writeChan c f v s) := by
  cases f with
  | claim =>
    refine setChanConfig_booked fun _ => ?_
    simp only [checkField] at h
    split at h
    · cases h
    · split at h
      · cases h
      next hv => simpa [chanValueOk] using hv
  | detect =>
    have hset : Booked s (setChanConfig c { s.chanConfig c with detect := (detectOfByte v).getD (s.chanConfig c).detect } s) :=
      setChanConfig_booked id
    simp only [writeChan]
    split
    · exact hset.trans (.of_aside (represent_aside .asked _ c))
    · exact hset
  | group | rank => exact .refl s
  | _ => exact setChanConfig_booked id

theorem writeLoad_booked (l : Load) (f : LoadField) (v : Byte) (s : State) : Booked s (writeLoad l f v s) := by
  have hset (r : LoadConfig) : Booked s (setLoadConfig l r s) := .of_config id fun _ => rfl
  cases f with
  | claimLow | claimHigh => exact .refl s
  | _ => exact hset _

theorem setStagger_booked (g : Group) (v : Byte) (s : State) :
    Booked s (setGroupConfig g { s.config.groups[g] with stagger := v } s) := by
  have hmembers (h : Group) : ({ s.config with groups := s.config.groups.set g { s.config.groups[g] with stagger := v } } :
      Image).membersOf h = s.config.membersOf h := by
    rw [Image.membersOf_set]
    split
    next hh => rw [hh]
    next => rfl
  refine .of_config (fun hs => ?_) fun l => ?_
  · rw [Image.sound_iff] at hs ⊢
    simpa only [hmembers] using hs
  · rw [Bool.eq_iff_iff, ← not_iff_not, Bool.not_eq_true, Bool.not_eq_true]
    rcases load_cases l with ⟨c, rfl⟩ | ⟨h, rfl⟩
    · simp only [Image.offered_ownLoad, hmembers]
    · simp only [Image.offered_groupLoad, hmembers]

theorem LoadRun.fresh_rest {st : LoadState} (h : st ∈ [LoadState.idle, .absorbed, .void]) :
    (LoadRun.fresh st).state ∈ [LoadState.idle, .locked, .absorbed, .void] := by
  simp only [List.mem_cons, List.not_mem_nil, or_false] at h
  rcases h with rfl | rfl | rfl <;> simp [LoadRun.fresh]

/-- What the membership makes of a load is the only change in the books; no load that it changes stands in a list (R5, R63, R64). -/
theorem regrouped_accounted {s t : State} (hrun : s.running = true)
    (hframe : t.phase = s.phase ∧ t.unit = s.unit ∧ t.slotA = s.slotA ∧ t.slotB = s.slotB ∧ t.halted = s.halted)
    (hh : t.holders = s.holders) (hq : t.queue = s.queue) (hr : s.resume = [] → t.resume = [])
    (hconfig : s.accountSound → t.config.sound)
    (hload : s.accountSound → ∀ l, t.load l = s.load l ∨
      (s.load l).state ∈ [LoadState.idle, .locked, .absorbed, .void]
        ∧ ∃ st ∈ [LoadState.idle, .absorbed, .void], t.load l = .fresh st)
    (hmember : s.accountSound → ∀ l, t.membershipHolds l) : Accounted s t := by
  obtain ⟨hphase, hunit, ha, hb, hhalted⟩ := hframe
  have hrun' : t.running = true := by
    rw [running_iff, hphase, hunit]
    exact (running_iff s).mp hrun
  have hfresh {st : LoadState} (h : st ∈ [LoadState.idle, .absorbed, .void]) :
      (LoadRun.fresh st).state ∈ [LoadState.idle, .locked, .absorbed, .void] := LoadRun.fresh_rest h
  refine ⟨fun hs => ?_, fun hs ht l => ?_⟩
  · obtain ⟨hslots, hbooks, hrevert⟩ := (accountSound_iff_of_running hrun).mp hs
    have hslots' : t.slotA.image.sound ∧ t.slotB.image.sound ∧ t.unit.image.sound := by
      rw [ha, hb, hunit]
      exact hslots
    have hholders : t.holdersSound := by
      refine holdersSound_of_holding hh (fun l => ?_) hbooks.holders
      rcases hload hs l with h | ⟨hrest, st, hst, h⟩
      · rw [h]
      · rw [h, not_holding_of_rest hrest, not_holding_of_rest (hfresh hst)]
    have hqueue : t.queueSound := by
      refine queueSound_of_queued hq (fun l => ?_) hbooks.queue
      rcases hload hs l with h | ⟨hrest, st, hst, h⟩
      · rw [h]
      · rw [h]
        exact iff_of_false (not_queued_of_rest (hfresh hst)) (not_queued_of_rest hrest)
    have hhalt : t.haltSound := fun hhalt => by
      obtain ⟨hqueue, hresume, hstates⟩ := hbooks.halt (hhalted.symm.trans hhalt)
      refine ⟨hq.trans hqueue, hr hresume, fun l => ?_⟩
      rcases hload hs l with h | ⟨-, st, hst, h⟩
      · rw [h]
        exact hstates l
      · rw [h]
        exact halted_of_rest (hfresh hst)
    have hrevert' : t.revertSound := fun hu => by
      obtain ⟨h1, h2⟩ := hrevert (hunit.symm.trans hu)
      exact ⟨hhalted.trans h1, hh.trans h2⟩
    exact (accountSound_iff_of_running hrun').mpr ⟨hslots', ⟨hconfig hs, hholders, hqueue, hmember hs, hhalt⟩, hrevert'⟩
  · rcases hload hs l with h | ⟨-, st, hst, h⟩
    · rw [h]
      exact ht l
    · rw [h]
      exact LoadRun.fresh_sound hst

/-- The checks of a channel written into a slot where it does not stand (R63). -/
theorem checkMember_eq_none {s : State} {g : Group} {k : Slot8} {v : Byte} {c : Chan} (hv : finOfByte 8 v = some c)
    (h : checkMember s g k v = none) (hne : (s.config.membersOf g)[k.val]? ≠ some c) :
    groupWritable s g = true ∧ s.config.groupOf c = none ∧ (s.load (ownLoad c)).state = .idle := by
  unfold checkMember at h
  rw [hv] at h
  dsimp only at h
  split at h
  · cases h
  · split at h
    · cases h
    next hw =>
      split at h
      · cases h
      next hgroup =>
        split at h
        · cases h
        next hidle => exact ⟨by simpa using hw, by simpa using hgroup, by simpa using hidle⟩

theorem rest_of_groupWritable {s : State} {g : Group} (h : groupWritable s g = true) :
    (s.load (groupLoad g)).state ∈ [LoadState.idle, .locked, .absorbed, .void] := by
  unfold groupWritable at h
  split at h
  case h_1 hst | h_2 hst | h_3 hst => rw [hst]; simp
  all_goals cases h

/-- The own load of a channel that is a member is ABSORBED (R5). -/
theorem Books.absorbed_of_member {s : State} (h : Books s) {g : Group} {c : Chan} (hc : c ∈ s.config.membersOf g) :
    (s.load (ownLoad c)).state = .absorbed := by
  have hst := (h.membership (ownLoad c)).1.mp (Image.offered_ownLoad.mpr ⟨g, hc⟩)
  rwa [if_pos (show (ownLoad c).val < 8 from c.isLt)] at hst

end Sys2Proof.Machine
end

section
/-! Every command keeps the account (R5, R9, R23, R126) and the load timers (R3, R5, R6). -/

namespace Sys2Proof.Machine

/-- A channel is written into a slot where it does not stand (R5, R63). -/
theorem joined_accounted {s : State} {g : Group} {k : Slot8} {c : Chan} (hrun : s.running = true)
    (hw : groupWritable s g = true) (hout : s.config.groupOf c = none) (hidle : (s.load (ownLoad c)).state = .idle) :
    Accounted s (joined s g k c) := by
  have hbooks (hs : s.accountSound) : Books s := ((accountSound_iff_of_running hrun).mp hs).2.1
  refine regrouped_accounted hrun ⟨rfl, rfl, rfl, rfl, rfl⟩ rfl rfl (fun hn => ?_) (fun hs => joined_config_sound (hbooks hs).config hout)
    (fun hs l => ?_) fun hs l => ?_
  · have hfilter : s.resume.filter (· != ownLoad c) = [] := by simp [hn]
    exact hfilter
  · rw [joined_load, joinedLoad]
    split
    next hl => exact .inr ⟨by rw [hl, hidle]; simp, .absorbed, by simp, rfl⟩
    next =>
      split
      next hold =>
        obtain ⟨d, hd, rfl⟩ := Option.map_eq_some_iff.mp hold
        exact .inr ⟨by rw [(hbooks hs).absorbed_of_member (List.mem_of_getElem? hd)]; simp, .idle, by simp, rfl⟩
      next =>
        split
        next hv => exact .inr ⟨by rw [hv.2]; simp, .idle, by simp, rfl⟩
        next => exact .inl rfl
  · have hs' := (hbooks hs).membership
    have hsound := (hbooks hs).config
    rcases load_cases l with ⟨d, rfl⟩ | ⟨h, rfl⟩
    · have hoffered := joined_offered_ownLoad (g := g) (k := k) (c := c) hsound d
      have hload : (joined s g k c).load (ownLoad d) =
          if d = c then .fresh .absorbed else if (s.config.membersOf g)[k.val]? = some d then .fresh .idle else s.load (ownLoad d) := by
        rw [joined_load, joinedLoad]
        simp only [ownLoad_inj, (groupLoad_ne_ownLoad g d).symm, false_and, if_false]
        refine if_congr Iff.rfl rfl (if_congr ?_ rfl rfl)
        cases (s.config.membersOf g)[k.val]? <;> simp [ownLoad_inj]
      by_cases hdc : d = c
      · refine membershipHolds_of_regrouped (fun ho => absurd (hoffered.mpr (.inl hdc)) (by simp [ho])) fun _ => ?_
        rw [hload, if_pos hdc, if_pos (show (ownLoad d).val < 8 from d.isLt)]
        rfl
      · by_cases hkd : (s.config.membersOf g)[k.val]? = some d
        · refine membershipHolds_of_regrouped (fun _ => ?_) fun ho => absurd (hoffered.mp ho) (by simp [hdc, hkd])
          rw [hload, if_neg hdc, if_pos hkd]
          exact ⟨nofun, nofun⟩
        · refine membershipHolds_of_side (s := s) ?_ ?_ (hs' (ownLoad d))
          · rw [Bool.eq_iff_iff, ← not_iff_not, Bool.not_eq_true, Bool.not_eq_true, hoffered]
            simp [hdc, hkd]
          · rw [hload, if_neg hdc, if_neg hkd]
    · have hoffered := joined_offered_groupLoad (s := s) (g := g) (k := k) (c := c) h
      have hload : (joined s g k c).load (groupLoad h) =
          if h = g ∧ (s.load (groupLoad h)).state = .void then .fresh .idle else s.load (groupLoad h) := by
        have hgroup : groupLoad h = groupLoad g ↔ h = g := by simp [groupLoad, Fin.ext_iff]
        have hnone : (s.config.membersOf g)[k.val]?.map ownLoad ≠ some (groupLoad h) := by
          intro heq
          obtain ⟨d, -, hd⟩ := Option.map_eq_some_iff.mp heq
          exact groupLoad_ne_ownLoad h d hd.symm
        rw [joined_load, joinedLoad, if_neg (groupLoad_ne_ownLoad h c), if_neg hnone]
        exact if_congr (and_congr_left' hgroup) rfl rfl
      by_cases hhg : h = g
      · subst hhg
        refine membershipHolds_of_regrouped (fun _ => ?_) fun ho => absurd rfl (hoffered.mp ho).1
        have hrest := rest_of_groupWritable hw
        have hnot : (s.load (groupLoad h)).state ≠ .absorbed := by
          intro ha
          cases ho : s.config.offered (groupLoad h)
          · have := (hs' (groupLoad h)).1.mp ho
            rw [ha, if_neg (by simp [groupLoad])] at this
            cases this
          · exact ((hs' (groupLoad h)).2 ho).1 ha
        rw [hload]
        split
        · exact ⟨nofun, nofun⟩
        next hv => exact ⟨hnot, fun h => hv ⟨rfl, h⟩⟩
      · refine membershipHolds_of_side (s := s) ?_ ?_ (hs' (groupLoad h))
        · rw [Bool.eq_iff_iff, ← not_iff_not, Bool.not_eq_true, Bool.not_eq_true, hoffered, and_iff_right hhg]
        · rw [hload, if_neg (by simp [hhg])]

/-- A slot that holds a member is emptied (R5, R64). -/
theorem truncated_accounted {s : State} {g : Group} {k : Slot8} (hrun : s.running = true) (hw : groupWritable s g = true)
    (hk : k.val < (s.config.membersOf g).length) : Accounted s (truncated s g k) := by
  have hbooks (hs : s.accountSound) : Books s := ((accountSound_iff_of_running hrun).mp hs).2.1
  refine regrouped_accounted hrun ⟨rfl, rfl, rfl, rfl, rfl⟩ rfl rfl (fun hn => ?_) (fun hs => truncated_config_sound (hbooks hs).config)
    (fun hs l => ?_) fun hs l => ?_
  · simp [truncated, hn]
  · rw [truncated_load]
    split
    next hl => exact .inr ⟨by rw [hl.2]; exact rest_of_groupWritable hw, .void, by simp, rfl⟩
    next =>
      split
      next hd =>
        obtain ⟨d, hd, rfl⟩ := hd
        exact .inr ⟨by rw [(hbooks hs).absorbed_of_member (List.mem_of_mem_drop hd)]; simp, .idle, by simp, rfl⟩
      next => exact .inl rfl
  · have hs' := (hbooks hs).membership
    rcases load_cases l with ⟨d, rfl⟩ | ⟨h, rfl⟩
    · have hoffered := truncated_offered_ownLoad (g := g) (k := k) (hbooks hs).config d
      have hload : (truncated s g k).load (ownLoad d) =
          if d ∈ (s.config.membersOf g).drop k.val then .fresh .idle else s.load (ownLoad d) := by
        rw [truncated_load]
        simp [ownLoad_inj, (groupLoad_ne_ownLoad g d).symm]
      by_cases hd : d ∈ (s.config.membersOf g).drop k.val
      · refine membershipHolds_of_regrouped (fun _ => ?_) fun ho => absurd hd (hoffered.mp ho).2
        rw [hload, if_pos hd]
        exact ⟨nofun, nofun⟩
      · refine membershipHolds_of_side (s := s) ?_ ?_ (hs' (ownLoad d))
        · rw [Bool.eq_iff_iff, ← not_iff_not, Bool.not_eq_true, Bool.not_eq_true, hoffered, and_iff_left hd]
        · rw [hload, if_neg hd]
    · have hoffered := truncated_offered_groupLoad hk h
      have hload : (truncated s g k).load (groupLoad h) = if k.val = 0 ∧ h = g then .fresh .void else s.load (groupLoad h) := by
        have hgroup : groupLoad h = groupLoad g ↔ h = g := by simp [groupLoad, Fin.ext_iff]
        have hnone : ¬∃ d ∈ (s.config.membersOf g).drop k.val, groupLoad h = ownLoad d := by
          rintro ⟨d, -, hd⟩
          exact groupLoad_ne_ownLoad h d hd
        rw [truncated_load, if_neg hnone]
        exact if_congr (and_congr_right' hgroup) rfl rfl
      by_cases hhg : h = g
      · by_cases hk0 : k.val = 0
        · refine membershipHolds_of_regrouped (fun ho => absurd (hoffered.mpr (.inl ⟨hhg, hk0⟩)) (by simp [ho])) fun _ => ?_
          rw [hload, if_pos ⟨hk0, hhg⟩, if_neg (by simp [groupLoad])]
          rfl
        · have hnonempty : s.config.membersOf g ≠ [] := by rintro hn; simp [hn] at hk
          refine membershipHolds_of_side (s := s) ?_ ?_ (hs' (groupLoad h))
          · rw [Bool.eq_iff_iff, ← not_iff_not, Bool.not_eq_true, Bool.not_eq_true, hoffered, Image.offered_groupLoad]
            simp [hhg, hk0, hnonempty]
          · rw [hload, if_neg (by simp [hk0])]
      · refine membershipHolds_of_side (s := s) ?_ ?_ (hs' (groupLoad h))
        · rw [Bool.eq_iff_iff, ← not_iff_not, Bool.not_eq_true, Bool.not_eq_true, hoffered]
          simp [hhg]
        · rw [hload, if_neg (by simp [hhg])]

theorem applyWrite_accounted {s : State} {loc : Location} {v : Byte} (hrun : s.running = true)
    (h : checkField s loc v = none) : Accounted s (applyWrite loc v s) := by
  have hplain {t : State} (ht : Booked s t) : Accounted s t := .of_booked hrun ht
  cases loc with
  | chan c f => exact hplain (writeChan_booked h)
  | load l f => exact hplain (writeLoad_booked l f v s)
  | stagger g => exact hplain (setStagger_booked g v s)
  | spacing | maskLow | maskHigh => exact hplain (.of_config id fun _ => rfl)
  | wrej =>
    simp only [applyWrite]
    split
    · exact .of_ledger rfl rfl id
    · exact .refl s
  | slot g k =>
    simp only [applyWrite, checkField] at h ⊢
    split
    next c hc =>
      have hff : v ≠ 0xFF := by rintro rfl; simp [finOfByte] at hc
      rw [if_neg hff] at h
      by_cases hsame : (s.config.membersOf g)[k.val]? = some c
      · rw [writeMember, if_pos hsame]
        exact .refl s
      · obtain ⟨hw, hout, hidle⟩ := checkMember_eq_none hc h hsame
        have hjoined := joined_accounted (k := k) hrun hw hout hidle
        rw [writeMember_eq hsame]
        split
        · exact hjoined.then_booked hrun (.of_aside (represent_aside .asked _ c))
        · exact hjoined
    next hnone =>
      have hff : v = 0xFF := by
        by_contra hne
        rw [if_neg hne, checkMember, hnone] at h
        cases h
      rw [if_pos hff] at h
      have hw : groupWritable s g = true := by
        split at h
        next hw => exact hw
        next => cases h
      by_cases hk : k.val < (s.config.membersOf g).length
      · rw [truncateMembers_eq hk]
        exact truncated_accounted hrun hw hk
      · rw [truncateMembers, if_pos (Nat.le_of_not_lt hk)]
        exact .refl s
  | _ => exact .refl s

/-- A DATA write that is accepted finds a part that runs (R181, R183). -/
theorem running_of_not_loading {s : State} (hp : s.phase = .released) (h : s.loading = false) : s.running = true := by
  simp only [State.loading, State.released, hp, beq_self_eq_true, Bool.true_and, Bool.or_eq_false_iff] at h
  exact (running_iff s).mpr ⟨hp, h.1⟩

theorem writeData_accounted (v : Byte) {s : State} (hp : s.phase = .released) : Accounted s (writeData v s) := by
  have hserved := settleForWrite_served v s
  have hsettled : Accounted s (settleForWrite v s) := by
    unfold settleForWrite
    dsimp only
    split
    next hnone =>
      have hrun := running_of_not_loading hp (checkField_of_checkWrite (Option.isNone_iff_eq_none.mp hnone)).1
      exact .of_booked hrun (settleFor_booked _ s)
    next => exact .refl s
  have hphase : (settleForWrite v s).phase = .released := hserved.phase_eq.trans hp
  unfold writeData
  dsimp only
  generalize settleForWrite v s = u at hsettled hphase
  have hindex (t : State) : Accounted t (advanceIndex t) := .of_ledger rfl rfl id
  refine hsettled.trans (Accounted.trans ?_ (hindex _))
  split
  · exact .of_ledger rfl rfl id
  next hnone =>
    obtain ⟨hl, hcheck⟩ := checkField_of_checkWrite hnone
    exact applyWrite_accounted (running_of_not_loading hphase hl) hcheck

/-! ## Every command -/

theorem longCommand_accounted {s t : State} {code : Byte} {start : State → ResultCode ⊕ LongOp}
    (himage : ∀ u op, u.imagesSound → start u = .inr op → op.image.sound)
    (hrevert : ∀ u, u.holdersSound → start u = .inr .revert → u.halted = true ∧ u.holders = [])
    (h : longCommand code start s = .next t) : Accounted s t := by
  refine (Accounted.robust s).longCommand (fun hc hu op hop => hu.trans ?_) h (.refl s)
  have hrun : (s.taken code).running = true := hc.running
  have hrun' : ({ s.taken code with unit := .executing op } : State).running = true := (running_iff _).mpr ⟨hc.1, rfl⟩
  generalize s.taken code = u at hop hrun hrun'
  refine ⟨fun hs => ?_, fun _ => id⟩
  have himages := hs.1
  obtain ⟨-, hb, -⟩ := (accountSound_iff_of_running hrun).mp hs
  refine (accountSound_iff_of_running hrun').mpr
    ⟨⟨himages.2.1, himages.2.2.1, himage u op himages hop⟩, ⟨hb.config, hb.holders, hb.queue, hb.membership, hb.halt⟩, fun hr => ?_⟩
  cases hr
  exact hrevert u hb.holders hop

/-- A reservation of at least 1 BU each leaves nothing committed only in an empty holder list (R3, R9). -/
theorem holders_nil_of_committed {s : State} (h : s.holdersSound) (hc : s.committed = 0) : s.holders = [] := by
  cases hh : s.holders with
  | nil => rfl
  | cons x xs =>
    have hone := h.2.2 x (by simp [hh])
    rw [State.committed, hh, amounts, List.map_cons, List.sum_cons] at hc
    omega

theorem execSaveProfile_accounted {s t : State} (h : execSaveProfile s = .next t) : Accounted s t := by
  refine longCommand_accounted (fun u op hi hop => ?_) (fun u _ hop => ?_) h
  · unfold beginSave at hop
    split at hop
    · cases hop
      exact hi.1
    · split at hop
      · cases hop
      · cases hop
        exact hi.1
  · unfold beginSave at hop
    split at hop
    · cases hop
    · split at hop <;> cases hop

theorem execEraseProfiles_accounted {s t : State} (h : execEraseProfiles s = .next t) : Accounted s t := by
  unfold execEraseProfiles at h
  refine longCommand_accounted (fun u op _ hop => ?_) (fun u _ hop => ?_) h
  · cases hop
    exact Image.factory_sound
  · cases hop

theorem execRevert_accounted {s t : State} (h : execRevert s = .next t) : Accounted s t := by
  refine longCommand_accounted (fun u op _ hop => ?_) (fun u hh hop => ?_) h
  · split at hop
    · cases hop
      exact Image.factory_sound
    · cases hop
  · split at hop
    next hc => exact ⟨hc.1, holders_nil_of_committed hh hc.2⟩
    next => cases hop

theorem takeInOrder_accounted {i : Instr} {s t : State} (h : takeInOrder i s = .next t) : Accounted s t := by
  by_cases hr : s.running = true
  · exact .of_booked hr (takeInOrder_booked h)
  · rw [takeInOrder_of_not_running (Bool.eq_false_iff.mpr hr)] at h
    cases h
    exact (Accounted.robust s).consume s i (.refl s)

theorem exec_accounted {i : Instr} {s t : State} (h : exec i s = .next t) : Accounted s t := by
  have hP := Accounted.robust s
  have hs : Accounted s s := .refl s
  have command {code : Byte} {act : State → State} (hb : ∀ u, Booked u (act u)) (hc : s.takesCommands)
      (hu : Accounted s (s.taken code)) : Accounted s (act (s.taken code)) := hu.then_booked hc.running (hb _)
  have event {i : Instr} {act : State → State} (hb : ∀ u, Booked u (act u)) (hr : s.running = true)
      (hu : Accounted s (s.consume i)) : Accounted s (act (s.consume i)) := hu.then_booked hr (hb _)
  have aside {act : State → State} (ha : ∀ u, Aside u (act u)) (u : State) : Booked u (act u) := .of_aside (ha u)
  have register {u : State} (h1 : u.ledger = s.ledger) (h2 : u.loads = s.loads) (h3 : u.sources = s.sources) : Accounted s u :=
    .of_ledger h1 h2 fun hn => h3.trans hn
  cases i with
  | request =>
    exact hP.immediate (fun hc => Robust.onLoad fun l => command (act := fun u => (request .host l u).2) (request_booked .host l) hc) h hs
  | release =>
    exact hP.immediate (fun hc => Robust.onLoad fun l => command (act := fun u => (releaseLoad l u).2) (releaseLoad_booked l) hc) h hs
  | clear =>
    exact hP.immediate (fun hc => Robust.onLoad fun l hu => hu.trans (clearLoad_accounted l (s := s.taken 0x03) hc.running)) h hs
  | declareOff => exact hP.immediate (command (act := fun u => (declareOff u).2) (aside declareOff_aside)) h hs
  | setBudget => exact hP.immediate (command (act := fun u => (setBudget u).2) setBudget_booked) h hs
  | setOvertake => exact hP.immediate (command (act := fun u => (setOvertake u).2) setOvertake_booked) h hs
  | resume => exact hP.immediate (fun hc hu => hu.trans (resumeService_accounted (s := s.taken 0x12) hc)) h hs
  | snapshot => exact hP.immediate (fun _ _ => register rfl rfl rfl) h hs
  | unknown code => exact hP.immediate (fun _ hu => hu) h hs
  | saveProfile => exact execSaveProfile_accounted h
  | eraseProfiles => exact execEraseProfiles_accounted h
  | revert => exact execRevert_accounted h
  | saveProfileCompletion matched =>
    exact hP.takeEvent (fun hr hu => hu.trans (endSave_accounted matched (s := s.consume _) hr)) h hs
  | eraseProfilesCompletion => exact hP.takeEvent (fun hr hu => hu.trans (endErase_accounted (s := s.consume _) hr)) h hs
  | revertCompletion => exact hP.takeEvent (fun hr hu => hu.trans (endRevert_accounted (s := s.consume _) hr)) h hs
  | haltRequest v | nieDieWrite v => exact Robust.strobe (fun _ _ => writeControl_accounted v s) h hs
  | statusOverrunClear v =>
    simp only [exec, execStatusOverrunClear] at h
    refine Robust.strobe (fun _ _ => ?_) h hs
    split
    · exact register rfl rfl rfl
    · exact hs
  | registerWrite r v =>
    refine Robust.strobe (fun _ _ => ?_) h hs
    cases r <;> exact register rfl rfl rfl
  | resultRead | dataRead | clockLoRead | noticeCursorWrite =>
    simp only [exec, execResultRead, execDataRead, execClockLoRead, execNoticeCursorWrite] at h
    exact Robust.strobe (fun _ _ => register rfl rfl rfl) h hs
  | dataWrite v => exact Robust.strobe (fun hp _ => writeData_accounted v hp) h hs
  | noticeRead =>
    simp only [exec, execNoticeRead] at h
    refine Robust.strobe (fun _ _ => ?_) h hs
    unfold readNotice
    dsimp only
    split
    · exact register rfl rfl rfl
    · split <;> exact register rfl rfl rfl
  | clockTick =>
    cases h
    split
    · exact tick_accounted s
    · exact hs
  | powerOnReset | powerLoss =>
    cases h
    exact reset_accounted _ _ s
  | pinReset =>
    cases h
    split
    · exact reset_accounted _ _ s
    all_goals exact hs
  | resetRelease => exact execResetRelease_accounted h
  | bootLoadEnd =>
    cases h
    split
    next hboot =>
      simp only [State.booting, State.released, Bool.and_eq_true, beq_iff_eq] at hboot
      exact endBoot_accounted (by simp [State.running, hboot.2]) hboot.1
    next => exact hs
  | pgLineChange | fltNLineChange | detLineChange | stbyLineChange | lowsupLineChange =>
    cases h
    exact register rfl rfl rfl
  | pgRise c => exact hP.takeEvent (event (aside (channelPgRise_aside c))) h hs
  | pgFall c => exact hP.takeEvent (event (aside (channelPgFall_aside c))) h hs
  | fltNAsserted c => exact hP.takeEvent (event (aside (channelFltAsserted_aside c))) h hs
  | fltNDeasserted c => exact hP.takeEvent (event (aside (channelFltDeasserted_aside c))) h hs
  | rampTimerExpiry c => exact hP.takeEvent (event (aside (channelRampExpiry_aside c))) h hs
  | dischargeTimerExpiry c => exact hP.takeEvent (event (aside (channelDischargeExpiry_aside c))) h hs
  | staggerTimerExpiry l => exact hP.takeEvent (event (aside (takeStaggerExpiry_aside l))) h hs
  | grantPass => exact hP.takeEvent (event grantPass_booked) h hs
  | coolDownExpiry l => exact hP.takeEvent (event (takeCoolDownExpiry_booked l)) h hs
  | stableTimerExpiry l => exact hP.takeEvent (event (takeStableExpiry_booked l)) h hs
  | lowsupFilterChange b => exact hP.takeEvent (event (takeLowsup_booked b)) h hs
  | standbyEvent => exact hP.takeEvent (event takeStandby_booked) h hs
  | wakeEvent => exact hP.takeEvent (event takeWake_booked) h hs
  | spacingTimerExpiry => exact hP.takeEvent (event takeSpacingExpiry_booked) h hs
  | detFilterChange c high => exact hP.takeEvent (event (aside (takeDetFilter_aside c high))) h hs
  | debounceTimerExpiry c => exact hP.takeEvent (event (aside (takeDebounceExpiry_aside c))) h hs
  | noticeHandover n => exact hP.takeEvent (event (aside (.handOver n))) h hs
  | startRamp | waitTurn | fall | cancelTurn | grantHandover | orderlyDescentOrder | tripOrder | returnReport | cancelDrain
  | channelOn | fallComplete | loadUp | descentEnded | drainEnded | faultReport | autoRequest | autoRelease | bootRequest =>
    exact takeInOrder_accounted h

theorem accountSound_pending {s : State} {rest : List Instr} (h : s.accountSound) :
    ({ s with pending := rest } : State).accountSound :=
  (Accounted.of_ledger (t := { s with pending := rest }) rfl rfl id).account h

/-- Settles O4: the account is kept by every command, and a step is a command's effect. -/
theorem everyStepKeepsTheAccount : Obligations.EveryStepKeepsTheAccount := by
  unfold Obligations.EveryStepKeepsTheAccount
  intro s t hs h
  exact step_keeps (P := State.accountSound) (fun _ _ => accountSound_pending) (fun _ _ _ h => (exec_accounted h).account) h hs

/-- Settles O8: the timers are kept with the account, which says in which state a load that moves is found. -/
theorem everyStepKeepsTheLoadTimers : Obligations.EveryStepKeepsTheLoadTimers := by
  unfold Obligations.EveryStepKeepsTheLoadTimers
  intro s t hs ht h
  have hkept := step_keeps (P := fun s => s.accountSound ∧ s.timersSound) (fun _ _ h => ⟨accountSound_pending h.1, h.2⟩)
    (fun _ _ _ h hs => ⟨(exec_accounted h).account hs.1, (exec_accounted h).timers hs.1 hs.2⟩) h ⟨hs, ht⟩
  exact hkept.2

/-! ## The reset state -/

/-- A reset of the part that has just been reset changes nothing. -/
theorem resetState_reset : resetState (.held .powerOn) State.reset = State.reset := by
  have hchans : (Vector.ofFn fun c => Channel.atReset (State.reset.chan c).pgLine (State.reset.chan c).fltLine
      (State.reset.chan c).detLine) = State.reset.chans := by decide
  exact congrArg (fun cs => ({ State.reset with chans := cs } : State)) hchans

/-- Settles O3: the reset state is what a reset leaves, which every invariant was shown of. -/
theorem resetMeetsTheInvariants : Obligations.ResetMeetsTheInvariants := by
  unfold Obligations.ResetMeetsTheInvariants
  have haccount := resetState_account (phase := .held .powerOn) (s := State.reset) Image.factory_sound Image.factory_sound
  have hfits := resetState_standingFits (.held .powerOn) State.reset
  have hstandby := resetState_standbySound (.held .powerOn) State.reset
  have hchans (c : Chan) := resetState_chan (.held .powerOn) State.reset c
  rw [resetState_reset] at haccount hfits hstandby hchans
  exact ⟨haccount.1, hfits, ⟨Nat.zero_le _, nofun, fun _ => rfl⟩, hstandby.descent, hstandby.resume, hstandby.start,
    fun c => hchans c ▸ Channel.atReset_sound _ _ _, haccount.2⟩

end Sys2Proof.Machine
end

section
/-! What every command does to the queue of commands, and what has no effect in reset, without power or during the boot load (R21, R42,
R171, R188). -/

namespace Sys2Proof.Machine

/-- Settles O1: a step with a command waiting takes that command. -/
theorem stepRunsTheFrontCommand : Obligations.StepRunsTheFrontCommand := by
  unfold Obligations.StepRunsTheFrontCommand
  intro c rest s
  rfl

/-! ## Out of service -/

theorem exec_next (c : Instr) (s : State) : ∃ t, exec c s = .next t := by
  cases c <;> exact ⟨_, rfl⟩

theorem running_eq_false_iff {s : State} : s.running = false ↔ s.phase ≠ .released ∨ s.unit = .booting := by
  rw [← Bool.not_eq_true, running_iff]
  have hbooting : s.unit.isBooting = false ↔ s.unit ≠ .booting := by
    cases s.unit <;> simp [UnitState.isBooting]
  rw [hbooting]
  tauto

/-- An event that is not of the detect unit is no longer in flight. -/
theorem takeEvent_idle {i : Instr} {act : State → State} {s : State} (hi : fromDetect i = false)
    (h : s.phase ≠ .released ∨ s.unit = .booting) : takeEvent i act s = .next { s with posted := s.posted.erase i } := by
  rw [takeEvent_of_not_running (running_eq_false_iff.mpr h), State.consume_eq _ hi]

theorem takeInOrder_idle {i : Instr} {s : State} (hi : fromDetect i = false) (h : s.phase ≠ .released ∨ s.unit = .booting) :
    takeInOrder i s = .next { s with posted := s.posted.erase i } := by
  rw [takeInOrder_of_not_running (running_eq_false_iff.mpr h), State.consume_eq _ hi]

/-- What made an event of the detect unit goes with it: as many stand before it as there are such events (log 27). -/
theorem State.consume_detect_eq {i : Instr} {p : Instr → Bool} (s : State) (hp : ∀ j, p j = fromDetect j) (hi : fromDetect i = true) :
    s.consume i = { s with
      posted := s.posted.erase i, sources := s.sources.eraseIdx ((s.posted.takeWhile (· != i)).countP p) } := by
  obtain rfl : p = fromDetect := funext hp
  simp [State.consume, hi]

theorem execBootLoadEnd_idle {s : State} (h : s.phase ≠ .released ∨ s.unit ≠ .booting) : execBootLoadEnd s = .next s := by
  have hbooting : s.booting = false := by
    simp only [State.booting, State.released]
    rcases h with h | h
    · simp [h]
    · cases hu : s.unit with
      | booting => exact absurd hu h
      | _ => simp [UnitState.isBooting]
  simp [execBootLoadEnd, hbooting]

theorem execClockTick_idle {s : State} (h : s.phase ≠ .released) : execClockTick s = .next s := by
  simp [execClockTick, State.released, h]

/-- Settles O2: every arm of the dispatch gives a next state and none touches the queue; the strobes are ignored out of a released
part, and an event of a unit that is out of service is taken out of flight alone. -/
theorem everyCommandGivesANextState : Obligations.EveryCommandGivesANextState := by
  unfold Obligations.EveryCommandGivesANextState
  intro c s
  obtain ⟨t, ht⟩ := exec_next c s
  refine ⟨⟨t, ht, (exec_kept ht).pending_eq⟩, ?_⟩
  cases c with
  | bootLoadEnd => exact execBootLoadEnd_idle
  | clockTick => exact execClockTick_idle
  | request | release | clear | declareOff | setBudget | setOvertake | resume | snapshot | saveProfile | eraseProfiles | revert
  | unknown | haltRequest | nieDieWrite | statusOverrunClear | registerWrite | dataWrite | noticeRead =>
    exact fun h => strobe_of_not_released h
  | resultRead | dataRead | noticeCursorWrite | clockLoRead =>
    simp only [exec, execResultRead, execDataRead, execNoticeCursorWrite, execClockLoRead]
    exact fun h => strobe_of_not_released h
  | powerOnReset | pinReset | powerLoss | resetRelease | pgLineChange | fltNLineChange | detLineChange | stbyLineChange
  | lowsupLineChange => trivial
  | saveProfileCompletion | eraseProfilesCompletion | revertCompletion | pgRise | pgFall | fltNAsserted | fltNDeasserted
  | rampTimerExpiry | dischargeTimerExpiry | staggerTimerExpiry | grantPass | coolDownExpiry | stableTimerExpiry
  | lowsupFilterChange | standbyEvent | wakeEvent | spacingTimerExpiry | detFilterChange | debounceTimerExpiry | noticeHandover =>
    exact takeEvent_idle rfl
  | bootRequest | startRamp | waitTurn | fall | cancelTurn | channelOn | fallComplete | faultReport | grantHandover
  | orderlyDescentOrder | tripOrder | returnReport | cancelDrain | loadUp | descentEnded | drainEnded =>
    exact takeInOrder_idle rfl
  | autoRequest l | autoRelease l =>
    intro h
    refine (takeInOrder_of_not_running (running_eq_false_iff.mpr h)).trans (congrArg _ (State.consume_detect_eq s (fun j => ?_) rfl))
    cases j <;> rfl

end Sys2Proof.Machine
end

section
/-! The channels (R42, R48 to R56), the lines (R42, R99, R113, R133) and the detect unit (R134, R135), case by case. -/

namespace Sys2Proof.Machine

/-! ## Events that act alone -/

/-- The part with an event no longer in flight. -/
def State.without (s : State) (i : Instr) : State := { s with posted := s.posted.erase i }

/-- An event of the part's own acts on the part without it in flight. -/
theorem takeEvent_alone {i : Instr} {act : State → State} {s t : State} (h : s.running = true) (hi : fromDetect i = false)
    (ht : act (s.without i) = t) : takeEvent i act s = .next t := by
  rw [takeEvent_of_running h, State.consume_eq _ hi, ← ht, State.without]

/-- An event between two units, with nothing before it that it may not overtake, acts on the part without it in flight. -/
theorem takeInOrder_alone {i : Instr} {s t : State} (h : s.running = true) (hi : fromDetect i = false) (ho : s.older i = [])
    (ht : deliver i (s.without i) = t) : takeInOrder i s = .next t := by
  rw [takeInOrder_of_no_older h ho, State.consume_eq _ hi, ← ht, State.without]

/-! ## Orders of the load sequencer -/

section
variable {c : Chan} {s : State}

theorem channelWait_of_off (h : (s.chan c).state = .off) :
    channelWait c s = s.setChan c { s.chan c with state := .waitTurn } := by simp [channelWait, h]

theorem channelWait_of_ne_off (h : (s.chan c).state ≠ .off) : channelWait c s = s.setChan c (s.chan c) := by
  rw [State.setChan_self]
  unfold channelWait
  split
  · contradiction
  all_goals rfl

theorem channelFall_of_waitTurn (h : (s.chan c).state = .waitTurn) :
    channelFall c s = s.setChan c { s.chan c with state := .off } := by simp [channelFall, h]

theorem channelFall_of_powered (h : (s.chan c).state = .ramp ∨ (s.chan c).state = .on) : channelFall c s = beginFall c s := by
  rcases h with h | h <;> simp [channelFall, h]

theorem channelFall_of_down (h : (s.chan c).state = .off ∨ (s.chan c).state = .fall) :
    channelFall c s = s.setChan c (s.chan c) := by
  rw [State.setChan_self]
  rcases h with h | h <;> simp [channelFall, h]

theorem channelCancel_of_waitTurn (h : (s.chan c).state = .waitTurn) :
    channelCancel c s = s.setChan c { s.chan c with state := .off } := by simp [channelCancel, h]

theorem channelCancel_of_ne_waitTurn (h : (s.chan c).state ≠ .waitTurn) : channelCancel c s = s.setChan c (s.chan c) := by
  rw [State.setChan_self]
  unfold channelCancel
  split
  · contradiction
  all_goals rfl

/-- A start ramp order in OFF or WAIT_TURN (R51). -/
theorem channelStart_of_ready (h : (s.chan c).state = .off ∨ (s.chan c).state = .waitTurn) :
    channelStart c s =
      if (s.chan c).flt then channelFault c .overcurrent s
      else if (s.chan c).pg then enterOn c s
      else s.setChan c { s.chan c with state := .ramp, ramp := .running (s.chanConfig c).rampTimeout.toNat } := by
  rcases h with h | h <;> simp [channelStart, h]

theorem channelStart_of_started (h : (s.chan c).state ∈ [ChanState.ramp, .on, .fall]) : channelStart c s = s := by
  simp only [List.mem_cons, List.not_mem_nil, or_false] at h
  rcases h with h | h | h <;> simp [channelStart, h]

end

theorem ChanState.ne_of_eq {u : State} {c : Chan} {a b : ChanState} (h : (u.chan c).state = a) (hab : a ≠ b) :
    (u.chan c).state ≠ b := h ▸ hab

/-- Settles O34: the table of R50 row by row, with what a start ramp order finds at the channel's lines. -/
theorem channelOrdersByState : Obligations.ChannelOrdersByState := by
  unfold Obligations.ChannelOrdersByState
  intro c s hr
  refine ⟨fun h => ⟨fun ho => ?_, fun ho => ?_, fun ho => ?_⟩, fun h => ⟨fun ho => ?_, fun ho => ?_, fun ho => ?_⟩,
    fun h => ⟨fun ho => ?_, fun ho => ?_, fun ho => ?_⟩, fun h => ⟨fun ho => ?_, fun ho => ?_, fun ho => ?_⟩,
    fun h => ⟨fun hflt ho => ?_, fun hflt hpg ho => ?_, fun hflt hpg ho => ?_⟩, fun h ho => ?_⟩
  all_goals refine takeInOrder_alone hr rfl ho ?_
  · exact channelWait_of_off h
  · exact channelFall_of_down (.inl h)
  · exact channelCancel_of_ne_waitTurn (ChanState.ne_of_eq h nofun)
  · exact channelWait_of_ne_off (ChanState.ne_of_eq h nofun)
  · exact channelFall_of_waitTurn h
  · exact channelCancel_of_waitTurn h
  · exact channelWait_of_ne_off (h.elim (ChanState.ne_of_eq · nofun) (ChanState.ne_of_eq · nofun))
  · exact channelCancel_of_ne_waitTurn (h.elim (ChanState.ne_of_eq · nofun) (ChanState.ne_of_eq · nofun))
  · exact channelFall_of_powered h
  · exact channelWait_of_ne_off (ChanState.ne_of_eq h nofun)
  · exact channelFall_of_down (.inr h)
  · exact channelCancel_of_ne_waitTurn (ChanState.ne_of_eq h nofun)
  · exact (channelStart_of_ready (s := s.without _) h).trans ((if_pos hflt).trans (channelFault_eq _ _ _))
  · exact (channelStart_of_ready (s := s.without _) h).trans ((if_neg (Bool.eq_false_iff.mp hflt)).trans (if_pos hpg))
  · exact (channelStart_of_ready (s := s.without _) h).trans ((if_neg (Bool.eq_false_iff.mp hflt)).trans (if_neg (Bool.eq_false_iff.mp hpg)))
  · exact channelStart_of_started h

/-! ## Changes of the filtered lines, and expiries -/

section
variable {c : Chan} {s : State}

/-- A change that the filter of PG does not make is none (R42). -/
theorem channelPgRise_of_discarded (h : (s.chan c).pg = true ∨ (s.chan c).pgLine = false) : channelPgRise c s = s := by
  have hno : filterTakes (s.chan c).pgLine (s.chan c).pg true = false := by
    rcases h with h | h <;> simp [filterTakes, h]
  simp [channelPgRise, hno]

section
variable (hpg : (s.chan c).pg = false) (hline : (s.chan c).pgLine = true)
include hpg hline

theorem channelPgRise_of_rest (h : (s.chan c).state = .off ∨ (s.chan c).state = .waitTurn) :
    channelPgRise c s = noteStray c (setPg c true s) := by
  rcases h with h | h <;> simp [channelPgRise, filterTakes, hpg, hline, h]

theorem channelPgRise_of_ramp (h : (s.chan c).state = .ramp) : channelPgRise c s = enterOn c (setPg c true s) := by
  simp [channelPgRise, filterTakes, hpg, hline, h]

theorem channelPgRise_of_level (h : (s.chan c).state = .on ∨ (s.chan c).state = .fall) :
    channelPgRise c s = setPg c true s := by
  rcases h with h | h <;> simp [channelPgRise, filterTakes, hpg, hline, h]

end

theorem channelPgFall_of_discarded (h : (s.chan c).pg = false ∨ (s.chan c).pgLine = true) : channelPgFall c s = s := by
  have hno : filterTakes (s.chan c).pgLine (s.chan c).pg false = false := by
    rcases h with h | h <;> simp [filterTakes, h]
  simp [channelPgFall, hno]

section
variable (hpg : (s.chan c).pg = true) (hline : (s.chan c).pgLine = false)
include hpg hline

theorem channelPgFall_of_on (h : (s.chan c).state = .on) : channelPgFall c s = channelFault c .pgLost (setPg c false s) := by
  simp [channelPgFall, filterTakes, hpg, hline, h]

theorem channelPgFall_of_expired (h : (s.chan c).state = .fall) (hd : (s.chan c).discharge = .expired) :
    channelPgFall c s = endFall c (setPg c false s) := by
  simp [channelPgFall, filterTakes, hpg, hline, h, hd]

theorem channelPgFall_of_level
    (h : (s.chan c).state ∈ [ChanState.off, .waitTurn, .ramp] ∨ (s.chan c).state = .fall ∧ (s.chan c).discharge ≠ .expired) :
    channelPgFall c s = setPg c false s := by
  simp only [List.mem_cons, List.not_mem_nil, or_false] at h
  rcases h with (h | h | h) | ⟨h, hd⟩
  case inr => simp [channelPgFall, filterTakes, hpg, hline, h, hd]
  all_goals simp [channelPgFall, filterTakes, hpg, hline, h]

end

theorem channelFltAsserted_of_discarded (h : (s.chan c).flt = true ∨ (s.chan c).fltLine = false) :
    channelFltAsserted c s = s := by
  have hno : filterTakes (s.chan c).fltLine (s.chan c).flt true = false := by
    rcases h with h | h <;> simp [filterTakes, h]
  simp [channelFltAsserted, hno]

section
variable (hflt : (s.chan c).flt = false) (hline : (s.chan c).fltLine = true)
include hflt hline

theorem channelFltAsserted_of_powered (h : (s.chan c).state = .ramp ∨ (s.chan c).state = .on) :
    channelFltAsserted c s = channelFault c .overcurrent (setFlt c true s) := by
  rcases h with h | h <;> simp [channelFltAsserted, filterTakes, hflt, hline, h]

theorem channelFltAsserted_of_level (h : (s.chan c).state ∈ [ChanState.off, .waitTurn, .fall]) :
    channelFltAsserted c s = setFlt c true s := by
  simp only [List.mem_cons, List.not_mem_nil, or_false] at h
  rcases h with h | h | h <;> simp [channelFltAsserted, filterTakes, hflt, hline, h]

end

/-- A deassertion changes the level alone; one whose line has returned, or that the filter has made, changes nothing (R42). -/
theorem channelFltDeasserted_eq :
    channelFltDeasserted c s =
      s.setChan c (if (s.chan c).fltLine = false then { s.chan c with flt := false } else s.chan c) := by
  unfold channelFltDeasserted
  by_cases hline : (s.chan c).fltLine = false
  · by_cases hflt : (s.chan c).flt = false
    · have hsame : ({ s.chan c with flt := false } : Channel) = s.chan c := by rw [← hflt]
      rw [if_neg (by simp [filterTakes, hflt]), if_pos hline, hsame, State.setChan_self]
    · rw [if_pos (by simp [filterTakes, hline, hflt]), if_pos hline, setFlt]
  · simp [filterTakes, hline, State.setChan_self]

theorem channelRampExpiry_of_ramp (h : (s.chan c).state = .ramp) (ht : (s.chan c).ramp ≠ .stopped) :
    channelRampExpiry c s = channelFault c .rampTimeout s := by
  cases hr : (s.chan c).ramp with
  | stopped => exact absurd hr ht
  | running n => simp [channelRampExpiry, h, hr]

theorem channelRampExpiry_of_none (h : (s.chan c).state ≠ .ramp ∨ (s.chan c).ramp = .stopped) :
    channelRampExpiry c s = s.setChan c (s.chan c) := by
  rw [State.setChan_self]
  unfold channelRampExpiry
  split
  case h_1 hst hr => rcases h with h | h <;> simp_all
  case h_2 => rfl

theorem channelDischargeExpiry_of_running {n : Nat} (h : (s.chan c).state = .fall) (ht : (s.chan c).discharge = .running n) :
    channelDischargeExpiry c s =
      if (s.chan c).pg then handOver (.pgStuck c) (s.setChan c { s.chan c with discharge := .expired, stuck := true })
      else endFall c s := by
  simp [channelDischargeExpiry, h, ht]

theorem channelDischargeExpiry_of_none
    (h : (s.chan c).state ≠ .fall ∨ (s.chan c).discharge = .stopped ∨ (s.chan c).discharge = .expired) :
    channelDischargeExpiry c s = s.setChan c (s.chan c) := by
  rw [State.setChan_self]
  unfold channelDischargeExpiry
  split
  case h_1 hst hr => rcases h with h | h | h <;> simp_all
  case h_2 => rfl

theorem setPg_enterOn_eq (b : Bool) : enterOn c (setPg c b s) =
    { s with
      chans := s.chans.set c { s.chan c with pg := b, state := .on, ramp := .stopped }
      posted := s.posted ++ [.channelOn c] } := by
  simp [enterOn_eq, setPg, State.setChan, State.chan]

theorem setPg_endFall_eq (b : Bool) : endFall c (setPg c b s) =
    { s with
      chans := s.chans.set c { s.chan c with
        pg := b, state := .off, discharge := .stopped, stuck := false, strayNoted := false }
      posted := s.posted ++ [.fallComplete c] } := by
  simp [endFall_eq, setPg, State.setChan, State.chan]

/-- A fault of a channel whose filtered level has just changed. -/
theorem setChan_channelFault_eq (x : Channel) (cause : FaultCause) : channelFault c cause (s.setChan c x) =
    { s with
      chans := s.chans.set c { x with
        lastFault := some cause
        state := .fall
        ramp := .stopped
        discharge := .running (s.chanConfig c).dischargeTime.toNat }
      fifo := s.fifoAfter [.fault c cause]
      posted := s.posted ++ [.faultReport c cause] } := by
  have hset : (s.setChan c x).chan c = x := State.setChan_chan_self s c x
  rw [channelFault_eq, hset]
  simp only [State.setChan, Vector.set_set]
  rfl

theorem noteStray_setPg_eq (b : Bool) : noteStray c (setPg c b s) =
    if (s.chanConfig c).enabled = true ∧ (s.chan c).strayNoted = false then
      { s with chans := s.chans.set c { s.chan c with pg := b, strayNoted := true }, fifo := s.fifoAfter [.strayPg c] }
    else { s with chans := s.chans.set c { s.chan c with pg := b } } := by
  have hset : (setPg c b s).chan c = { s.chan c with pg := b } := State.setChan_chan_self s c _
  unfold noteStray
  rw [hset]
  by_cases h : (s.chanConfig c).enabled = true ∧ (s.chan c).strayNoted = false
  · have hcond : (((setPg c b s).chanConfig c).enabled && !(s.chan c).strayNoted) = true := by
      rw [h.2, Bool.not_false, Bool.and_true]
      exact h.1
    rw [if_pos h, if_pos hcond, handOver_eq]
    simp only [setPg, State.setChan, Vector.set_set]
    rfl
  · have hcond : ¬(((setPg c b s).chanConfig c).enabled && !(s.chan c).strayNoted) = true := by
      rw [Bool.and_eq_true, Bool.not_eq_true']
      exact h
    rw [if_neg h, if_neg hcond]
    rfl

end

/-- Settles O35: the rise by the channel's state, once the filter has made it. -/
theorem pgRiseByState : Obligations.PgRiseByState := by
  unfold Obligations.PgRiseByState
  intro c s hr
  refine ⟨fun h => ?_, fun hpg hline => ⟨fun h => ?_, fun h => ?_, fun h => ?_⟩⟩
  all_goals refine takeEvent_alone hr rfl ?_
  · exact channelPgRise_of_discarded (s := s.without _) h
  · exact (channelPgRise_of_ramp (s := s.without _) hpg hline h).trans (setPg_enterOn_eq true)
  · exact (channelPgRise_of_rest (s := s.without _) hpg hline h).trans (noteStray_setPg_eq true)
  · exact channelPgRise_of_level (s := s.without _) hpg hline h

/-- Settles O36: each of the three faults leaves the channel in FALL with its report sent. -/
theorem channelFaultsBeginAFall : Obligations.ChannelFaultsBeginAFall := by
  unfold Obligations.ChannelFaultsBeginAFall
  intro c s hr
  refine ⟨fun hflt hline h => ?_, fun hpg hline h => ?_, fun h ht => ?_⟩
  all_goals refine takeEvent_alone hr rfl ?_
  · exact (channelFltAsserted_of_powered (s := s.without _) hflt hline h).trans (setChan_channelFault_eq _ _)
  · exact (channelPgFall_of_on (s := s.without _) hpg hline h).trans (setChan_channelFault_eq _ _)
  · exact (channelRampExpiry_of_ramp (s := s.without _) h ht).trans (channelFault_eq _ _ _)

/-- Settles O37: where a state ignores a change, the filtered level is all that is set. -/
theorem channelEventsWithoutEffect : Obligations.ChannelEventsWithoutEffect := by
  unfold Obligations.ChannelEventsWithoutEffect
  intro c s hr
  have hself (i : Instr) : s.without i = (s.without i).setChan c (s.chan c) := (State.setChan_self (s.without i) c).symm
  refine ⟨?_, fun h => ?_, fun hflt hline h => ?_, fun h => ?_, fun hpg hline h => ?_, fun h => ?_, fun h => ?_⟩
  all_goals refine takeEvent_alone hr rfl ?_
  · exact channelFltDeasserted_eq (s := s.without _)
  · exact (channelFltAsserted_of_discarded (s := s.without _) h).trans (hself _)
  · exact channelFltAsserted_of_level (s := s.without _) hflt hline h
  · exact (channelPgFall_of_discarded (s := s.without _) h).trans (hself _)
  · exact channelPgFall_of_level (s := s.without _) hpg hline h
  · exact channelRampExpiry_of_none (s := s.without _) h
  · exact channelDischargeExpiry_of_none (s := s.without _) h

/-- Settles O38: the expiry by PG, and the PG fall that ends a stuck fall. -/
theorem fallEndsWhenDischarged : Obligations.FallEndsWhenDischarged := by
  unfold Obligations.FallEndsWhenDischarged
  intro c s hr h
  refine ⟨fun n hn hpg => ?_, fun n hn hpg => ?_, fun hd hpg hline => ?_⟩
  all_goals refine takeEvent_alone hr rfl ?_
  · exact (channelDischargeExpiry_of_running (s := s.without _) h hn).trans (if_neg (Bool.eq_false_iff.mp hpg))
  · exact (channelDischargeExpiry_of_running (s := s.without _) h hn).trans ((if_pos hpg).trans (handOver_eq _ _))
  · exact (channelPgFall_of_expired (s := s.without _) hpg hline h hd).trans (setPg_endFall_eq false)

/-! ## Lines and presence -/

theorem SlowLine.change_eq (running b : Bool) (x : SlowLine) : x.change running b =
    if x.line = b then x else { x with
      line := b
      qualify := if running = true ∧ b ≠ x.due.getLast?.getD x.filtered then .running 2 else .stopped } := by
  simp only [SlowLine.change, SlowLine.settled, Config.slowFilterMs, Bool.and_eq_true, bne_iff_ne]

/-- Settles O46: a line change is one field of its line, and on the slow lines a qualification too. -/
theorem lineChangesQualify : Obligations.LineChangesQualify := by
  unfold Obligations.LineChangesQualify
  intro c b s
  refine ⟨rfl, rfl, rfl, ?_, ?_⟩
  · simp only [exec, execStbyLineChange, SlowLine.change_eq]
    split <;> rfl
  · simp only [exec, execLowsupLineChange, SlowLine.change_eq]
    split <;> rfl

section
variable {c : Chan} {s : State}

/-- What is handed over at an attach or a detach: a notice outside MANUAL, and the event of an acting channel (R135). -/
theorem reportPresence_eq (b : Bool) : reportPresence c b s =
    { s with
      posted := s.posted ++ (if s.config.acting c then [if b then .autoRequest (s.config.servedLoad c)
        else .autoRelease (s.config.servedLoad c)] else [])
      sources := s.sources ++ (if s.config.acting c then [.change c] else [])
      fifo := s.fifoAfter (if (s.chanConfig c).detect = .manual then [] else [if b then .attach c else .detach c]) } := by
  unfold reportPresence
  split
  case h_1 hm =>
    have hacting : s.config.acting c = false := by
      have hd : (s.config.channels[c]).detect = .manual := hm
      unfold Image.acting
      rw [hd]
      rfl
    simp [hm, hacting, State.fifoAfter]
  all_goals
    rename_i hm
    rw [handOver_eq]
    by_cases hacting : s.config.acting c = true
    · simp [hm, hacting, State.ask, State.post]
    · simp [hm, hacting]

theorem settlePresence_setChan_eq (x : Channel) (h : x.det ≠ x.present) : settlePresence c (s.setChan c x) =
    { s with
      chans := s.chans.set c { x with present := x.det, debounce := .stopped }
      posted := s.posted ++ (if s.config.acting c then [if x.det then .autoRequest (s.config.servedLoad c)
        else .autoRelease (s.config.servedLoad c)] else [])
      sources := s.sources ++ (if s.config.acting c then [.change c] else [])
      fifo := s.fifoAfter (if (s.chanConfig c).detect = .manual then [] else [if x.det then .attach c else .detach c]) } := by
  unfold settlePresence
  rw [State.setChan_chan_self]
  dsimp only
  rw [if_neg h, State.setChan_setChan, reportPresence_eq]
  rfl

theorem settlePresence_of_eq (h : (s.chan c).det = (s.chan c).present) :
    settlePresence c s = s.setChan c { s.chan c with debounce := .stopped } := by
  have hsame : ({ s.chan c with present := (s.chan c).det, debounce := .stopped } : Channel) =
      { s.chan c with debounce := .stopped } := by rw [h]
  unfold settlePresence
  dsimp only
  rw [if_pos h, hsame]

theorem debounce_setChan_of_eq {x : Channel} (h : x.det = x.present) :
    debounce c (s.setChan c x) = s.setChan c { x with debounce := .stopped } := by
  unfold debounce
  rw [State.setChan_chan_self]
  dsimp only
  rw [if_pos h, State.setChan_setChan]

theorem debounce_setChan_of_ne {x : Channel} (h : x.det ≠ x.present) :
    debounce c (s.setChan c x) =
      if (s.chanConfig c).debounce = 0 then settlePresence c (s.setChan c x)
      else s.setChan c { x with debounce := .running (s.chanConfig c).debounce.toNat } := by
  unfold debounce
  rw [State.setChan_chan_self]
  dsimp only
  rw [if_neg h, State.setChan_setChan]
  rfl

theorem takeDetFilter_of_discarded {b : Bool} (h : (s.chan c).det = b ∨ (s.chan c).detLine ≠ b) :
    takeDetFilter c b s = s.setChan c (s.chan c) := by
  have hno : filterTakes (s.chan c).detLine (s.chan c).det b = false := by
    rcases h with h | h <;> simp [filterTakes, h]
  simp [takeDetFilter, hno, State.setChan_self]

theorem takeDetFilter_of_taken {b : Bool} (h : (s.chan c).det ≠ b) (hline : (s.chan c).detLine = b) :
    takeDetFilter c b s = debounce c (s.setChan c { s.chan c with det := b }) := by
  have htakes : filterTakes (s.chan c).detLine (s.chan c).det b = true := by simp [filterTakes, h, hline]
  simp [takeDetFilter, htakes]

theorem takeDebounceExpiry_of_running (h : (s.chan c).debounce ≠ .stopped) : takeDebounceExpiry c s = settlePresence c s := by
  unfold takeDebounceExpiry
  split
  · rfl
  · contradiction

theorem takeDebounceExpiry_of_stopped (h : (s.chan c).debounce = .stopped) :
    takeDebounceExpiry c s = s.setChan c (s.chan c) := by
  rw [State.setChan_self]
  simp [takeDebounceExpiry, h]

end

/-- Settles O47: what the filter and the debounce timer make of the debounced state, and what an attach or a detach hands over. -/
theorem presenceIsDebounced : Obligations.PresenceIsDebounced := by
  unfold Obligations.PresenceIsDebounced
  intro c b s hr
  refine ⟨fun h => ?_, fun hd hl hp => ?_, fun hd hl hp h0 => ?_, fun hd hl hp h0 => ?_, fun ht hd => ?_, fun ht hd => ?_, fun ht => ?_⟩
  all_goals refine takeEvent_alone hr rfl ?_
  · exact takeDetFilter_of_discarded (s := s.without _) h
  · exact (takeDetFilter_of_taken (s := s.without _) hd hl).trans (debounce_setChan_of_eq hp.symm)
  · exact (takeDetFilter_of_taken (s := s.without _) hd hl).trans ((debounce_setChan_of_ne (Ne.symm hp)).trans (if_neg h0))
  · exact (takeDetFilter_of_taken (s := s.without _) hd hl).trans
      ((debounce_setChan_of_ne (Ne.symm hp)).trans ((if_pos h0).trans (settlePresence_setChan_eq _ (Ne.symm hp))))
  · have hsettled := settlePresence_setChan_eq (c := c) (s := s.without (.debounceTimerExpiry c)) (s.chan c) hd
    rw [show s.chan c = (s.without (.debounceTimerExpiry c)).chan c from rfl, State.setChan_self] at hsettled
    exact (takeDebounceExpiry_of_running (s := s.without _) ht).trans hsettled
  · exact (takeDebounceExpiry_of_running (s := s.without _) ht).trans (settlePresence_of_eq (s := s.without _) hd)
  · exact takeDebounceExpiry_of_stopped (s := s.without _) ht

end Sys2Proof.Machine
end

section
/-! The load sequencer's records, case by case (R68 to R80). -/

namespace Sys2Proof.Machine

/-! ## What the statements say of a record, and the model's words for it -/

theorem State.mem_holdingDescendants {s : State} {l x : Load} :
    x ∈ s.holdingDescendants l ↔ s.holds x = true ∧ s.descendantOf x l = true := by
  simp [State.holdingDescendants, State.holds]

theorem State.holdingDescendants_eq_nil {s : State} {l : Load} : s.holdingDescendants l = [] ↔ s.noHoldingDescendant l := by
  rw [List.eq_nil_iff_forall_not_mem]
  refine forall_congr' fun x => ?_
  rw [State.mem_holdingDescendants, not_and, Bool.not_eq_true]

theorem State.holdingDescendants_isEmpty {s : State} {l : Load} :
    (s.holdingDescendants l).isEmpty = true ↔ s.noHoldingDescendant l := by
  rw [List.isEmpty_iff, State.holdingDescendants_eq_nil]

theorem highestIn_eq (members out : List Chan) : highestIn members out = (members.filter fun c => c ∈ out).getLast? := by
  have hcontains : out.contains = fun c => decide (c ∈ out) := by
    funext c
    simp
  rw [highestIn, hcontains, ← List.head?_filter, List.filter_reverse, List.head?_reverse]

theorem insertChan_eq (c : Chan) (cs : List Chan) : insertChan c cs = if c ∈ cs then cs else cs ++ [c] := by
  simp [insertChan]

theorem waitingMembers_eq (s : State) (l : Load) (r : SeqRecord) : waitingMembers (s.config.channelsOf l) r = s.waiting l r := by
  have hcontains : r.outSet.contains = fun c => decide (c ∈ r.outSet) := by
    funext c
    simp
  unfold waitingMembers State.waiting
  rw [hcontains]
  split
  next h => rw [if_pos h]
  all_goals
    rename_i h
    rw [if_neg (by rw [h]; exact nofun)]

theorem SeqRecord.cancelled_eq (r : SeqRecord) (waiting : List Chan) :
    r.cancelled waiting = { r with stagger := .stopped, outSet := r.outSet.filter fun c => c ∉ waiting } := by
  simp [SeqRecord.cancelled]

theorem lowerNext_eq (l : Load) (r : SeqRecord) (s : State) : lowerNext l r s =
    { s with seq := s.seq.set l (some (s.lowered l r).1), posted := s.posted ++ [(s.lowered l r).2] } := by
  unfold lowerNext State.lowered
  dsimp only
  rw [highestIn_eq]
  split
  next h => rw [h]; rfl
  next h => rw [h]; rfl

theorem State.setRecord_self {s : State} {l : Load} {x : Option SeqRecord} (h : s.record l = x) : s.setRecord l x = s := by
  have hset : s.seq.set l x = s.seq := by
    rw [← h]
    exact Vector.set_getElem_self _
  rw [State.setRecord, hset]

theorem State.postAll_nil (s : State) : s.postAll [] = s := by rw [State.postAll, List.append_nil]

theorem State.record_setRecord (s : State) (x y : Load) (r : Option SeqRecord) :
    (s.setRecord x r).record y = if y = x then r else s.record y := by
  simp only [State.record, State.setRecord, Fin.getElem_fin, Vector.getElem_set, Fin.val_inj, eq_comm]

/-! ## Bring-up -/

/-- Settles O40: the hand-over of a load with a lead. -/
theorem grantHandoverBeginsBringUp : Obligations.GrantHandoverBeginsBringUp := by
  unfold Obligations.GrantHandoverBeginsBringUp
  intro l lead others s hr ho hmembers
  refine takeInOrder_alone hr rfl ho ?_
  simp only [deliver, takeGrant]
  rw [show (s.without (.grantHandover l)).config.channelsOf l = lead :: others from hmembers]
  rfl

section
variable {l : Load} {c : Chan} {r : SeqRecord} {s : State}

/-- The next member's start, or nothing more where there is none (R70). -/
theorem startNext_of_none (h : (s.config.channelsOf l)[r.step + 1]? = none) : startNext l r s = s.setRecord l (some r) := by
  rw [startNext, h]

theorem startNext_of_some {m : Chan} (h : (s.config.channelsOf l)[r.step + 1]? = some m) : startNext l r s =
    { s with
      seq := s.seq.set l (some { r with step := r.step + 1, outSet := if m ∈ r.outSet then r.outSet else r.outSet ++ [m] })
      posted := s.posted ++ [.startRamp m] } := by
  rw [startNext, h]
  dsimp only
  rw [insertChan_eq]
  rfl

theorem takeChannelOn_of_none (h : s.record (s.config.servedLoad c) = none) : takeChannelOn c s = s := by
  simp [takeChannelOn, h]

section
variable (h : s.record (s.config.servedLoad c) = some r)
include h

theorem takeChannelOn_of_ignored (hi : r.phase ≠ .rise ∨ (s.config.channelsOf (s.config.servedLoad c))[r.step]? ≠ some c) :
    takeChannelOn c s = s := by
  have hno : ¬(r.phase = .rise ∧ (s.config.channelsOf (s.config.servedLoad c))[r.step]? = some c) := by tauto
  simp only [takeChannelOn, h, if_neg hno]

/-- An ON report of the member at rank step (R70). -/
theorem takeChannelOn_of_awaited (hp : r.phase = .rise)
    (hs : (s.config.channelsOf (s.config.servedLoad c))[r.step]? = some c) :
    takeChannelOn c s =
      if ∀ m ∈ s.config.channelsOf (s.config.servedLoad c), m ∈ insertChan c r.onSet then
        (s.setRecord (s.config.servedLoad c) (some { r with onSet := insertChan c r.onSet, phase := .steady })).post
          (.loadUp (s.config.servedLoad c))
      else if r.stalled then s.setRecord (s.config.servedLoad c) (some { r with onSet := insertChan c r.onSet })
      else if s.config.staggerOf (s.config.servedLoad c) = 0 then
        startNext (s.config.servedLoad c) { r with onSet := insertChan c r.onSet } s
      else s.setRecord (s.config.servedLoad c) (some { r with
        onSet := insertChan c r.onSet, stagger := .running (s.config.staggerOf (s.config.servedLoad c)) }) := by
  simp only [takeChannelOn, h, hp, hs, and_self, if_true, List.all_eq_true, List.contains_iff_mem]

end

theorem takeStaggerExpiry_of_none (h : s.record l = none) : takeStaggerExpiry l s = s := by simp [takeStaggerExpiry, h]

theorem takeStaggerExpiry_of_running (h : s.record l = some r) (hp : r.phase = .rise) (ht : r.stagger ≠ .stopped) :
    takeStaggerExpiry l s =
      if r.stalled then s.setRecord l (some { r with stagger := .stopped }) else startNext l { r with stagger := .stopped } s := by
  cases hst : r.stagger with
  | stopped => exact absurd hst ht
  | running n => simp [takeStaggerExpiry, h, hp, hst]

theorem takeStaggerExpiry_of_ignored (h : s.record l = some r) (hi : r.phase ≠ .rise ∨ r.stagger = .stopped) :
    takeStaggerExpiry l s = s := by
  simp only [takeStaggerExpiry, h]
  split
  next hp hst => rcases hi with hi | hi <;> simp_all
  next => rfl

end

/-- Settles O41: the report of the awaited member, the stagger timer's expiry, and all that is ignored. -/
theorem bringUpGoesMemberByMember : Obligations.BringUpGoesMemberByMember := by
  unfold Obligations.BringUpGoesMemberByMember
  intro l s hr
  refine ⟨fun hnone => ⟨?_, ?_⟩, fun r hrec => ?_⟩
  · rintro c rfl ho
    rw [State.consume_eq _ rfl]
    exact takeInOrder_alone hr rfl ho (takeChannelOn_of_none (s := s.without _) hnone)
  · rw [State.consume_eq _ rfl]
    exact takeEvent_alone hr rfl (takeStaggerExpiry_of_none (s := s.without _) hnone)
  · dsimp only
    have hstarts {i : Instr} {x : SeqRecord} {t : State} (ht : t = startNext l x (s.without i)) :
        t = match (s.config.channelsOf l)[x.step + 1]? with
          | some m => { s with
              seq := s.seq.set l (some { x with
                step := x.step + 1, outSet := if m ∈ x.outSet then x.outSet else x.outSet ++ [m] })
              posted := s.posted.erase i ++ [.startRamp m] }
          | none => { s with seq := s.seq.set l (some x), posted := s.posted.erase i } := by
      rw [ht]
      cases hm : (s.config.channelsOf l)[x.step + 1]? with
      | none => exact startNext_of_none (s := s.without i) hm
      | some m => exact startNext_of_some (s := s.without i) hm
    refine ⟨?_, fun hp ht => ⟨fun hst => ?_, fun hst => ?_⟩, fun hi => ?_⟩
    · rintro c rfl ho
      refine ⟨fun hi => ?_, fun hp hs => ⟨fun hall => ?_, fun hnot => ⟨fun hst => ?_, fun hst h0 => ?_, fun hst h0 => ?_⟩⟩⟩
      · rw [State.consume_eq _ rfl]
        exact takeInOrder_alone hr rfl ho (takeChannelOn_of_ignored (s := s.without _) hrec hi)
      all_goals
        refine takeInOrder_alone hr rfl ho ((takeChannelOn_of_awaited (s := s.without _) hrec hp hs).trans ?_)
        rw [insertChan_eq]
      · exact if_pos hall
      · exact (if_neg hnot).trans (if_pos hst)
      · refine hstarts ((if_neg hnot).trans ((if_neg (Bool.eq_false_iff.mp hst)).trans (if_pos h0)))
      · exact (if_neg hnot).trans ((if_neg (Bool.eq_false_iff.mp hst)).trans (if_neg h0))
    · exact takeEvent_alone hr rfl (hstarts ((takeStaggerExpiry_of_running (s := s.without _) hrec hp ht).trans
        (if_neg (Bool.eq_false_iff.mp hst))))
    · exact takeEvent_alone hr rfl ((takeStaggerExpiry_of_running (s := s.without _) hrec hp ht).trans (if_pos hst))
    · rw [State.consume_eq _ rfl]
      exact takeEvent_alone hr rfl (takeStaggerExpiry_of_ignored (s := s.without _) hrec hi)

/-! ## Descents -/

section
variable {c : Chan} {r : SeqRecord} {s : State}

theorem takeFallComplete_of_none (h : s.record (s.config.servedLoad c) = none) : takeFallComplete c s = s := by
  simp [takeFallComplete, h]

variable (h : s.record (s.config.servedLoad c) = some r)
include h

theorem takeFallComplete_of_rise (hp : r.phase = .rise) : takeFallComplete c s =
    s.setRecord (s.config.servedLoad c) (some { r with
      outSet := removeChan c r.outSet, onSet := removeChan c r.onSet, stalled := true, stagger := .stopped }) := by
  simp only [takeFallComplete, h, hp]

theorem takeFallComplete_of_standing (hp : r.phase ∈ [Phase.steady, .drain, .hold]) : takeFallComplete c s =
    s.setRecord (s.config.servedLoad c) (some { r with outSet := removeChan c r.outSet }) := by
  simp only [List.mem_cons, List.not_mem_nil, or_false] at hp
  rcases hp with hp | hp | hp <;> simp only [takeFallComplete, h, hp]

theorem takeFallComplete_of_orderly (hp : r.phase = .orderly) : takeFallComplete c s =
    if (s.config.channelsOf (s.config.servedLoad c))[r.step]? = some c then
      lowerNext (s.config.servedLoad c) { r with outSet := removeChan c r.outSet } s
    else s.setRecord (s.config.servedLoad c) (some { r with outSet := removeChan c r.outSet }) := by
  simp only [takeFallComplete, h, hp]

theorem takeFallComplete_of_immediate (hp : r.phase = .immediate) : takeFallComplete c s =
    (s.setRecord (s.config.servedLoad c) (some { r with outSet := removeChan c r.outSet })).postAll
      (if removeChan c r.outSet = [] then [.descentEnded (s.config.servedLoad c)] else []) := by
  simp only [takeFallComplete, h, hp, List.isEmpty_iff]
  split
  next => rfl
  next => exact (State.postAll_nil _).symm

end

/-- Settles O42: the report in each phase of the record. -/
theorem fallCompleteByPhase : Obligations.FallCompleteByPhase := by
  unfold Obligations.FallCompleteByPhase
  intro c r s hr ho
  have happend {x : SeqRecord} : { s with
      seq := s.seq.set (s.config.servedLoad c) (some x), posted := s.posted.erase (.fallComplete c) ++ [] }
      = (s.without (.fallComplete c)).setRecord (s.config.servedLoad c) (some x) := by
    rw [List.append_nil]
    rfl
  dsimp only
  refine ⟨fun hnone => ?_, fun hrec => ⟨fun hp => ?_, fun hp => ?_, fun hp hs => ?_, fun hp hs => ?_, fun hp => ?_⟩⟩
  · rw [State.consume_eq _ rfl]
    exact takeInOrder_alone hr rfl ho (takeFallComplete_of_none (s := s.without _) hnone)
  · rw [happend]
    exact takeInOrder_alone hr rfl ho (takeFallComplete_of_rise (s := s.without _) hrec hp)
  · rw [happend]
    exact takeInOrder_alone hr rfl ho (takeFallComplete_of_standing (s := s.without _) hrec hp)
  · rw [happend]
    exact takeInOrder_alone hr rfl ho ((takeFallComplete_of_orderly (s := s.without _) hrec hp).trans (if_neg hs))
  · exact takeInOrder_alone hr rfl ho ((takeFallComplete_of_orderly (s := s.without _) hrec hp).trans
      ((if_pos hs).trans (lowerNext_eq _ _ _)))
  · exact takeInOrder_alone hr rfl ho (takeFallComplete_of_immediate (s := s.without _) hrec hp)

section
variable {l : Load} {r : SeqRecord} {s : State}

theorem takeOrderlyOrder_of_none (h : s.record l = none) : takeOrderlyOrder l s = s := by simp [takeOrderlyOrder, h]

theorem takeTripOrder_of_none (h : s.record l = none) : takeTripOrder l s = s := by simp [takeTripOrder, h]

variable (h : s.record l = some r)
include h

/-- An orderly descent order holds the record, or lowers the first channel (R73). -/
theorem takeOrderlyOrder_of_some : takeOrderlyOrder l s =
    if s.noHoldingDescendant l then
      lowerNext l (r.cancelled (s.waiting l r)) (s.postAll ((s.waiting l r).map Instr.cancelTurn))
    else (s.postAll ((s.waiting l r).map Instr.cancelTurn)).setRecord l
      (some { r.cancelled (s.waiting l r) with phase := .hold }) := by
  simp only [takeOrderlyOrder, h, waitingMembers_eq, State.holdingDescendants_isEmpty]

theorem takeTripOrder_of_immediate (hp : r.phase = .immediate) : takeTripOrder l s = s := by
  simp only [takeTripOrder, h, hp, if_true]

/-- A trip order gives fall to all that is out, or reports the end of the descent (R78). -/
theorem takeTripOrder_of_other (hp : r.phase ≠ .immediate) : takeTripOrder l s =
    ((s.setRecord l (some { r.cancelled (s.waiting l r) with phase := .immediate })).postAll
      ((s.waiting l r).map Instr.cancelTurn)).postAll
      (if r.phase = .orderly ∧ r.outSet = [] then []
        else if (r.cancelled (s.waiting l r)).outSet = [] then [.descentEnded l]
        else ((s.config.channelsOf l).filter fun c => c ∈ (r.cancelled (s.waiting l r)).outSet).map Instr.fall) := by
  have hcontains (out : List Chan) : out.contains = fun c => decide (c ∈ out) := by
    funext c
    simp
  simp only [takeTripOrder, h, if_neg hp, waitingMembers_eq, Bool.and_eq_true, beq_iff_eq, List.isEmpty_iff, hcontains]
  split
  next => exact (State.postAll_nil _).symm
  next => split <;> rfl

end

/-- Settles O43: both descent orders, by what stands in the record. -/
theorem descentOrdersAtTheSequencer : Obligations.DescentOrdersAtTheSequencer := by
  unfold Obligations.DescentOrdersAtTheSequencer
  intro l s hr
  refine ⟨fun hnone => ⟨fun ho => ?_, fun ho => ?_⟩, fun r hrec => ?_⟩
  · rw [State.consume_eq _ rfl]
    exact takeInOrder_alone hr rfl ho (takeOrderlyOrder_of_none (s := s.without _) hnone)
  · rw [State.consume_eq _ rfl]
    exact takeInOrder_alone hr rfl ho (takeTripOrder_of_none (s := s.without _) hnone)
  dsimp only
  rw [← SeqRecord.cancelled_eq]
  have hout : (r.outSet.filter fun c => c ∉ s.waiting l r) = (r.cancelled (s.waiting l r)).outSet :=
    congrArg SeqRecord.outSet (SeqRecord.cancelled_eq r (s.waiting l r)).symm
  rw [hout]
  refine ⟨fun hd ho => ?_, fun hd ho => ?_, fun hp ho => ?_, fun hp ho => ?_⟩
  · exact takeInOrder_alone hr rfl ho ((takeOrderlyOrder_of_some (s := s.without _) hrec).trans (if_neg hd))
  · exact takeInOrder_alone hr rfl ho ((takeOrderlyOrder_of_some (s := s.without _) hrec).trans
      ((if_pos hd).trans (lowerNext_eq _ _ _)))
  · rw [State.consume_eq _ rfl]
    exact takeInOrder_alone hr rfl ho (takeTripOrder_of_immediate (s := s.without _) hrec hp)
  · exact takeInOrder_alone hr rfl ho (takeTripOrder_of_other (s := s.without _) hrec hp)

/-! ## The end of a hold -/

/-- What an examination makes of a record, and what it sends (R76). -/
def State.examined (s : State) (x : Load) (r : SeqRecord) : SeqRecord × List Instr :=
  if s.noHoldingDescendant x then
    match r.phase with
    | .drain => ({ r with drainReported := true }, if r.drainReported then [] else [.drainEnded x])
    | .hold => ((s.lowered x r).1, [(s.lowered x r).2])
    | .rise | .steady | .orderly | .immediate => (r, [])
  else (r, [])

/-- Everything but the records and what is in flight. -/
def State.sameButRecords (s t : State) : Prop := t = { s with seq := t.seq, posted := t.posted }

theorem State.sameButRecords.trans {s t u : State} (h : s.sameButRecords t) (hu : t.sameButRecords u) : s.sameButRecords u := by
  unfold State.sameButRecords at *
  rw [hu, h]

theorem State.sameButRecords.examined {s t : State} (h : s.sameButRecords t) (x : Load) (r : SeqRecord) :
    t.examined x r = s.examined x r := by
  rw [h]
  rfl

/-- The examination of one record. -/
theorem examineRecord_eq (s : State) (x : Load) : examineRecord s x =
    (s.setRecord x ((s.record x).map fun r => (s.examined x r).1)).postAll ((s.record x).elim [] fun r => (s.examined x r).2) := by
  unfold examineRecord
  cases h : s.record x with
  | none => simp [State.setRecord_self h, State.postAll_nil]
  | some r =>
    simp only [Option.map_some, Option.elim_some, Bool.not_eq_true', State.examined]
    by_cases hd : s.noHoldingDescendant x
    · rw [State.holdingDescendants_isEmpty.mpr hd, if_neg nofun, if_pos hd]
      cases hp : r.phase with
      | drain =>
        cases hrep : r.drainReported with
        | true =>
          have hself : ({ r with drainReported := true } : SeqRecord) = r := by rw [← hrep]
          simp [← hp, hself, State.setRecord_self h, State.postAll_nil]
        | false => simp [← hp]; rfl
      | hold => exact (lowerNext_eq _ _ _).trans rfl
      | rise | steady | orderly | immediate => simp [State.setRecord_self h, State.postAll_nil]
    · rw [Bool.eq_false_iff.mpr (mt State.holdingDescendants_isEmpty.mp hd), if_pos rfl, if_neg hd]
      simp [State.setRecord_self h, State.postAll_nil]

theorem examineRecord_sameButRecords (s : State) (x : Load) : s.sameButRecords (examineRecord s x) := by
  rw [examineRecord_eq]
  rfl

theorem examineRecord_record (s : State) (x y : Load) : (examineRecord s x).record y =
    if y = x then (s.record y).map fun r => (s.examined y r).1 else s.record y := by
  rw [examineRecord_eq]
  refine (State.record_setRecord s x y _).trans ?_
  split
  next h => rw [h]
  next => rfl

theorem examineRecord_posted (s : State) (x : Load) : (examineRecord s x).posted =
    s.posted ++ (s.record x).elim [] fun r => (s.examined x r).2 := by
  rw [examineRecord_eq]
  rfl

theorem foldl_examineRecord_sameButRecords (ls : List Load) (s : State) : s.sameButRecords (ls.foldl examineRecord s) := by
  induction ls generalizing s with
  | nil => rfl
  | cons x ls ih => exact (examineRecord_sameButRecords s x).trans (ih _)

/-- The examination of all records at once: no examination changes what another one finds. -/
theorem foldl_examineRecord_record (ls : List Load) (hls : ls.Nodup) (s : State) (y : Load) :
    (ls.foldl examineRecord s).record y = if y ∈ ls then (s.record y).map fun r => (s.examined y r).1 else s.record y := by
  induction ls generalizing s with
  | nil => rfl
  | cons x ls ih =>
    obtain ⟨hx, hls⟩ := List.nodup_cons.mp hls
    rw [List.foldl_cons, ih hls, examineRecord_record]
    simp only [(examineRecord_sameButRecords s x).examined, List.mem_cons]
    by_cases hy : y = x
    · subst hy
      simp [hx]
    · simp [hy]

theorem foldl_examineRecord_posted (ls : List Load) (hls : ls.Nodup) (s : State) : (ls.foldl examineRecord s).posted =
    s.posted ++ ls.flatMap fun x => (s.record x).elim [] fun r => (s.examined x r).2 := by
  induction ls generalizing s with
  | nil => simp
  | cons x ls ih =>
    obtain ⟨hx, hls⟩ := List.nodup_cons.mp hls
    rw [List.foldl_cons, ih hls, examineRecord_posted, List.flatMap_cons, List.append_assoc]
    congr 2
    refine List.flatMap_congr fun y hy => ?_
    rw [examineRecord_record, if_neg (by rintro rfl; exact hx hy)]
    simp only [(examineRecord_sameButRecords s x).examined]

/-- Settles O44: the returned load's record goes, and each of the others is examined once. -/
theorem returnReportReleasesTheHolds : Obligations.ReturnReportReleasesTheHolds := by
  unfold Obligations.ReturnReportReleasesTheHolds
  intro l s hr ho
  have hlist : allLoads.Nodup := List.nodup_finRange 12
  set u : State := (s.without (.returnReport l)).setRecord l none with hu
  have hsame : s.sameButRecords u := rfl
  have hrecord (x : Load) : u.record x = if x = l then none else s.record x := State.record_setRecord _ l x none
  refine ⟨allLoads.foldl examineRecord u, takeInOrder_alone hr rfl ho rfl, fun x => ?_, ?_,
    hsame.trans (foldl_examineRecord_sameButRecords allLoads u)⟩
  · rw [foldl_examineRecord_record allLoads hlist, if_pos (show x ∈ allLoads from List.mem_finRange x), hrecord]
    by_cases hx : x = l
    · rw [if_pos hx, if_pos hx]
      rfl
    · rw [if_neg hx, if_neg hx]
      refine congrArg (fun f => Option.map f (s.record x)) (funext fun r => ?_)
      rw [hsame.examined, State.examined]
      split
      next => cases r.phase <;> rfl
      next => rfl
  · rw [foldl_examineRecord_posted allLoads hlist]
    refine congrArg (s.posted.erase (.returnReport l) ++ ·) (List.flatMap_congr fun x _ => ?_)
    rw [hrecord]
    by_cases hx : x = l
    · rw [if_pos hx, hx]
      cases s.record l <;> simp
    · rw [if_neg hx]
      cases s.record x with
      | none => rfl
      | some r =>
        refine (congrArg Prod.snd (hsame.examined x r)).trans ?_
        unfold State.examined
        dsimp only
        by_cases hd : s.noHoldingDescendant x
        · rw [if_pos hd, if_pos (show x ≠ l ∧ s.noHoldingDescendant x from ⟨hx, hd⟩)]
          cases r.phase <;> rfl
        · rw [if_neg hd, if_neg (show ¬(x ≠ l ∧ s.noHoldingDescendant x) from fun h => hd h.2)]

/-! ## The end of a drain -/

section
variable {l : Load} {s : State}

theorem takeDrainEnded_of_draining (h : (s.load l).state = .draining) : takeDrainEnded l s = descendInOrder l .idle s := by
  simp [takeDrainEnded, h]

theorem takeDrainEnded_of_other (h : (s.load l).state ≠ .draining) : takeDrainEnded l s = s := by
  unfold takeDrainEnded
  split
  next hd => exact absurd hd h
  all_goals rfl

theorem takeCancelDrain_of_drain {r : SeqRecord} (h : s.record l = some r) (hp : r.phase = .drain) : takeCancelDrain l s =
    s.setRecord l (some { r with phase := .steady, drainReported := false }) := by
  simp [takeCancelDrain, h, hp]

theorem takeCancelDrain_of_other (h : ∀ r, s.record l = some r → r.phase ≠ .drain) : takeCancelDrain l s = s := by
  unfold takeCancelDrain
  split
  next => rfl
  next r hrec =>
    split
    next hp => exact absurd hp (h r hrec)
    all_goals rfl

end

/-- Settles O45: both reports, by the load's state and the record's phase. -/
theorem drainEndsOrIsCancelled : Obligations.DrainEndsOrIsCancelled := by
  unfold Obligations.DrainEndsOrIsCancelled
  intro l s hr
  refine ⟨fun hst ho => ?_, fun hst ho => ?_, fun r hrec hp ho => ?_, fun hno ho => ?_⟩
  · exact takeInOrder_alone hr rfl ho (takeDrainEnded_of_draining (s := s.without _) hst)
  · rw [State.consume_eq _ rfl]
    exact takeInOrder_alone hr rfl ho (takeDrainEnded_of_other (s := s.without _) hst)
  · exact takeInOrder_alone hr rfl ho (takeCancelDrain_of_drain (s := s.without _) hrec hp)
  · rw [State.consume_eq _ rfl]
    exact takeInOrder_alone hr rfl ho (takeCancelDrain_of_other (s := s.without _) hno)

end Sys2Proof.Machine
end

section
/-! The commands of the mailbox at the channels, the view and the profile store's start (R57, R92, R145 to R155). -/

namespace Sys2Proof.Machine

/-! ## Re-presentation -/

/-- What a re-presentation of a channel sends (R139). -/
def State.representing (s : State) (c : Chan) : List Instr :=
  if s.config.acting c && (s.chan c).present then [.autoRequest (s.config.servedLoad c)] else []

theorem represent_eq (source : DetectSource) (s : State) (c : Chan) : represent source s c = { s with
    posted := s.posted ++ s.representing c, sources := s.sources ++ (s.representing c).map fun _ => source } := by
  unfold represent State.representing
  split
  next => rfl
  next => simp

theorem representLoad_eq (l : Load) (s : State) : representLoad l s = { s with
    posted := s.posted ++ (s.config.channelsOf l).head?.elim [] s.representing
    sources := s.sources ++ ((s.config.channelsOf l).head?.elim [] s.representing).map fun _ => .asked } := by
  unfold representLoad
  cases (s.config.channelsOf l).head? with
  | none => simp
  | some c => exact represent_eq _ _ _

/-! ## CLEAR and DECLARE_OFF -/

theorem State.chan_setChan (s : State) (c d : Chan) (x : Channel) :
    (s.setChan c x).chan d = if d = c then x else s.chan d := by
  simp only [State.chan, State.setChan, Fin.getElem_fin, Vector.getElem_set, Fin.val_inj, eq_comm]

theorem clearFaults_frame (cs : List Chan) (s : State) : clearFaults cs s = { s with chans := (clearFaults cs s).chans } := by
  induction cs generalizing s with
  | nil => rfl
  | cons c cs ih => exact ih _

theorem clearFaults_chan (cs : List Chan) (s : State) (d : Chan) :
    (clearFaults cs s).chan d = if d ∈ cs then { s.chan d with lastFault := none } else s.chan d := by
  induction cs generalizing s with
  | nil => rfl
  | cons c cs ih =>
    refine (ih _).trans ?_
    rw [State.chan_setChan]
    by_cases hc : d = c
    · subst hc
      simp
    · simp [hc]

theorem clearWaits_eq (s : State) (l : Load) : clearWaits s l =
    fun j source => decide (∃ c : Chan, source = .change c ∧ s.config.servedLoad c = l ∧ (j = .autoRequest l ∨ j = .autoRelease l)) := by
  funext j source
  cases source with
  | change c =>
    rw [Bool.eq_iff_iff]
    cases j <;> simp [clearWaits, detectLoad, and_comm]
  | revert | resume | asked => simp [clearWaits]

section
variable {l : Load} {s : State}

theorem clearLoad_of_other (h : (s.load l).state ≠ .locked) : clearLoad l s = (.state, s) := by
  unfold clearLoad
  split
  next hl => exact absurd hl h
  all_goals rfl

theorem clearLoad_of_locked (h : (s.load l).state = .locked) : clearLoad l s =
    (.done, representLoad l (clearFaults ((settleFor (clearWaits s l) s).config.channelsOf l)
      (enterIdle l (settleFor (clearWaits s l) s)))) := by
  simp only [clearLoad, h]

theorem channelDeclareOff_of_stuck {c : Chan} (h : (s.chan c).state = .fall) (hs : (s.chan c).stuck = true) :
    channelDeclareOff c s = (.done, endFall c s) := by
  simp only [channelDeclareOff, h, hs]

theorem channelDeclareOff_of_other {c : Chan} (h : (s.chan c).state ≠ .fall ∨ (s.chan c).stuck = false) :
    channelDeclareOff c s = (.state, s) := by
  unfold channelDeclareOff
  split
  next hf hs => rcases h with h | h <;> simp_all
  next => rfl

theorem declareOff_of_arg {code : Byte} {c : Chan} (h : s.args[0].toNat = c.val) :
    declareOff (s.taken code) = channelDeclareOff c (s.taken code) := by
  simp [declareOff, argChan, State.taken, finOfByte_of_toNat h]

end

/-- The requests and releases of a change are events of the detect unit. -/
theorem fromDetect_of_clearWaits {s : State} {l : Load} {i : Instr} {source : DetectSource} (h : clearWaits s l i source = true) :
    fromDetect i = true := by
  rw [clearWaits_eq] at h
  obtain ⟨_, _, _, rfl | rfl⟩ := of_decide_eq_true h <;> rfl

/-- Settles O39: the two commands that free a channel and a load. -/
theorem declareOffAndClear : Obligations.DeclareOffAndClear := by
  unfold Obligations.DeclareOffAndClear
  intro s hc
  refine ⟨fun c harg => ⟨fun hf hs => ?_, fun hno => ?_⟩, fun l harg => ⟨fun hno => ?_, fun hl => ?_⟩⟩
  · refine (immediate_of_takesCommands hc).trans ?_
    rw [declareOff_of_arg harg, channelDeclareOff_of_stuck (s := s.taken _) hf hs, endFall_eq]
    rfl
  · refine (immediate_of_takesCommands hc).trans ?_
    rw [declareOff_of_arg harg, channelDeclareOff_of_other (s := s.taken _) hno]
  · refine (immediate_of_takesCommands hc).trans ?_
    rw [onLoad_of_arg harg, clearLoad_of_other (s := s.taken _) hno]
  · dsimp only
    rw [← clearWaits_eq]
    have hlocked : clearLoad l (s.taken 0x03) = _ := clearLoad_of_locked (s := s.taken _) hl
    have hwaits : clearWaits (s.taken 0x03) l = clearWaits s l := rfl
    obtain ⟨_, _, _, _, _, _, _, _, _, hu⟩ := settleFor_changes (p := clearWaits s l) (s := s.taken 0x03)
      fun _ _ h => fromDetect_of_clearWaits h
    have hconfig : (settleFor (clearWaits s l) (s.taken 0x03)).config = s.config := by rw [hu]; rfl
    have hchans : (settleFor (clearWaits s l) (s.taken 0x03)).chans = s.chans := by rw [hu]; rfl
    rw [hwaits] at hlocked
    refine ⟨_, (immediate_of_takesCommands hc).trans (by rw [onLoad_of_arg harg, hlocked]), ?_⟩
    generalize settleFor (clearWaits s l) (s.taken 0x03) = u at hconfig hchans
    set v := clearFaults (u.config.channelsOf l) (enterIdle l u) with hv
    have hframe : v = { enterIdle l u with chans := v.chans } := clearFaults_frame _ _
    have hchan (d : Chan) : v.chan d = if d ∈ s.config.channelsOf l then { s.chan d with lastFault := none } else s.chan d := by
      have hsame : (enterIdle l u).chan d = s.chan d := congrArg (·[d]) hchans
      rw [hv, clearFaults_chan, hsame, hconfig]
    have hvconfig : v.config = s.config := by rw [hframe]; exact hconfig
    have hasked : (v.config.channelsOf l).head?.elim [] v.representing = match (s.config.channelsOf l).head? with
        | some c => if s.config.acting c && (s.chan c).present then [.autoRequest (s.config.servedLoad c)] else []
        | none => [] := by
      rw [hvconfig]
      cases (s.config.channelsOf l).head? with
      | none => rfl
      | some c =>
        have hpresent : (v.chan c).present = (s.chan c).present := by rw [hchan]; split <;> rfl
        simp only [Option.elim_some, State.representing, hvconfig, hpresent]
    have hsent := representLoad_eq l v
    rw [hasked] at hsent
    refine ⟨fun d => ?_, ?_, ?_, ?_⟩
    · rw [hsent]
      exact hchan d
    all_goals
      rw [hsent, hframe]
      rfl

end Sys2Proof.Machine
end

section
/-! The command mailbox, and the long commands' takes and completions (R144 to R157, R192, R194). -/

namespace Sys2Proof.Machine

/-! ## What a command leaves of the mailbox -/

/-- What the take of a command fixes in the mailbox. -/
def State.mailbox (s : State) : Byte × Vector Byte 4 × Vector Byte 4 × Byte × Bool × UnitState :=
  (s.cmd, s.args, s.argCopy, s.resultSeq, s.overrun, s.unit)

theorem Served.mailbox_eq {s t : State} (h : Served s t) : t.mailbox = s.mailbox := by rw [h.frame]; rfl

theorem setBudget_mailbox (s : State) : (setBudget s).2.mailbox = s.mailbox := by
  unfold setBudget
  split
  · rfl
  · dsimp only
    obtain ⟨_, _, _, _, _, h⟩ :=
      recomputeCeiling_changes { s with config := { s.config with full := argFull s, reduced := argReduced s } }
    rw [h]
    rfl

theorem setOvertake_mailbox (s : State) : (setOvertake s).2.mailbox = s.mailbox := by
  unfold setOvertake
  split
  · rfl
  · exact (grantPass_served _).mailbox_eq

theorem select_mailbox (s : State) : (select s).mailbox = s.mailbox := by
  obtain ⟨_, _, _, _, h⟩ := select_changes s
  rw [h]
  rfl

theorem resumeService_mailbox (s : State) : (resumeService s).2.mailbox = s.mailbox := by
  unfold resumeService
  split
  · dsimp only
    have hrep (u : State) : (allChans.foldl (represent .resume) u).mailbox = u.mailbox :=
      (Served.foldl (fun s c => (represent_aside .resume s c).toServed) allChans u).mailbox_eq
    rw [hrep, (grantPass_served _).mailbox_eq]
    have hmode (u : State) : (noteMode u.mode { u with halted := false }).mailbox = u.mailbox := by
      rw [noteMode_eq]
      rfl
    have hsettled := (settleFor_served resumeWaits s).mailbox_eq
    split
    · exact (select_mailbox _).trans ((hmode _).trans hsettled)
    · exact (hmode _).trans hsettled
  · rfl

theorem onLoad_mailbox {act : Load → State → ResultCode × State} (h : ∀ l s, (act l s).2.mailbox = s.mailbox) (s : State) :
    (onLoad act s).2.mailbox = s.mailbox := by
  unfold onLoad
  split
  · exact h _ s
  · rfl

/-! ## Every CMD write -/

/-- A command of the mailbox is immediate or long. -/
inductive MailboxCommand (i : Instr) (code : Byte) : Prop
  | immediate (owner : State → ResultCode × State) (hexec : exec i = immediate code owner)
      (hmailbox : ∀ s, (owner s).2.mailbox = s.mailbox)
  | long (start : State → ResultCode ⊕ LongOp) (hexec : exec i = longCommand code start)

theorem mailboxCommand_of_code {i : Instr} {code : Byte} (h : commandCode i = some code) : MailboxCommand i code := by
  cases i <;> simp only [commandCode, Option.some.injEq, reduceCtorEq] at h <;> subst h
  case request => exact .immediate _ rfl (onLoad_mailbox fun l s => (request_served .host l s).mailbox_eq)
  case release => exact .immediate _ rfl (onLoad_mailbox fun l s => (releaseLoad_served l s).mailbox_eq)
  case clear => exact .immediate _ rfl (onLoad_mailbox fun l s => (clearLoad_served l s).mailbox_eq)
  case declareOff => exact .immediate _ rfl fun s => (declareOff_served s).mailbox_eq
  case setBudget => exact .immediate _ rfl setBudget_mailbox
  case setOvertake => exact .immediate _ rfl setOvertake_mailbox
  case resume => exact .immediate _ rfl resumeService_mailbox
  case snapshot => exact .immediate _ rfl fun _ => rfl
  case unknown code => exact .immediate _ rfl fun _ => rfl
  case saveProfile => exact .long _ rfl
  case eraseProfiles => exact .long (fun _ => .inr .erase) rfl
  case revert => exact .long _ rfl

theorem onLoad_of_bad_target {act : Load → State → ResultCode × State} {code : Byte} {s : State} (h : 12 ≤ s.args[0].toNat) :
    onLoad act (s.taken code) = (.badTarget, s.taken code) := by
  have hnone : argLoad (s.taken code) = none := finOfByte_none h
  simp only [onLoad, hnone]

theorem declareOff_of_bad_target {code : Byte} {s : State} (h : 8 ≤ s.args[0].toNat) :
    declareOff (s.taken code) = (.badTarget, s.taken code) := by
  have hnone : argChan (s.taken code) = none := finOfByte_none h
  simp only [declareOff, hnone]

theorem setBudget_of_range {s : State} (h : 2047 < argFull s ∨ argFull s < argReduced s) : setBudget s = (.range, s) := if_pos h

/-- Settles O48: the take, the loss, and the checks that a command's argument fails. -/
theorem commandWriteIsTakenOrLost : Obligations.CommandWriteIsTakenOrLost := by
  unfold Obligations.CommandWriteIsTakenOrLost
  intro i code s hcode hphase
  refine ⟨fun hbusy => ?_, fun hready => ⟨?_, ?_, ?_, ?_, ?_⟩⟩
  · rcases mailboxCommand_of_code hcode with ⟨owner, hexec, -⟩ | ⟨start, hexec⟩
    · rw [hexec, immediate, strobe_of_released hphase, writeCmd_of_busy hbusy]
    · rw [hexec, longCommand, strobe_of_released hphase, writeCmd_of_busy hbusy]
  · have hc : s.takesCommands := ⟨hphase, hready⟩
    rcases mailboxCommand_of_code hcode with ⟨owner, hexec, hmailbox⟩ | ⟨start, hexec⟩
    · refine ⟨_, by rw [hexec]; exact immediate_of_takesCommands hc, ?_⟩
      have hm := hmailbox (s.taken code)
      simp only [State.mailbox, Prod.mk.injEq] at hm
      obtain ⟨hcmd, hargs, hcopy, hseq, hover, hunit⟩ := hm
      exact ⟨hcmd, hargs, hcopy, hseq, hover, .inl ⟨hunit.trans hready, rfl⟩⟩
    · refine ⟨_, by rw [hexec]; exact longCommand_of_takesCommands hc, ?_⟩
      cases start (s.taken code) with
      | inl r => exact ⟨rfl, rfl, rfl, rfl, rfl, .inl ⟨hready, rfl⟩⟩
      | inr op => exact ⟨rfl, rfl, rfl, rfl, rfl, .inr ⟨⟨op, rfl⟩, rfl, rfl⟩⟩
  · rintro x rfl
    cases hcode
    exact immediate_of_takesCommands ⟨hphase, hready⟩
  · intro hi hbad
    simp only [List.mem_cons, List.not_mem_nil, or_false] at hi
    rcases hi with rfl | rfl | rfl <;> cases hcode <;>
      exact (immediate_of_takesCommands ⟨hphase, hready⟩).trans (by rw [onLoad_of_bad_target hbad])
  · rintro rfl hbad
    cases hcode
    exact (immediate_of_takesCommands ⟨hphase, hready⟩).trans (by rw [declareOff_of_bad_target hbad])
  · rintro rfl hrange
    cases hcode
    exact (immediate_of_takesCommands ⟨hphase, hready⟩).trans (by rw [setBudget_of_range (s := s.taken _) hrange])

/-- Settles O49: each entry of the copy is the state's own. -/
theorem snapshotCopiesThePart : Obligations.SnapshotCopiesThePart := by
  unfold Obligations.SnapshotCopiesThePart
  intro s hc
  refine ⟨(s.taken 0x20).snapshot, immediate_of_takesCommands hc, rfl, rfl, rfl, rfl, rfl, rfl, rfl, rfl, fun l => ?_, fun c => ?_⟩
  · exact Vector.getElem_ofFn _
  · refine (Vector.getElem_ofFn _).trans ?_
    have hen (x : ChanState) : x.enAsserted = (x == .ramp || x == .on) := by cases x <;> rfl
    rw [hen]
    rfl

/-! ## SAVE_PROFILE -/

theorem beginSave_of_none {s : State} (h : s.active = none) : beginSave s = .inr (.save s.config .a 1) := by
  simp only [beginSave, h]

theorem beginSave_of_some {s : State} {id : SlotId} (h : s.active = some id) : beginSave s =
    if (s.slot id).generation = 65534 then .inl .genLimit
    else .inr (.save s.config (if id = .a then .b else .a) ((s.slot id).generation + 1)) := by
  have hlimit : (s.slot id).generation.toNat = Config.maxGeneration ↔ (s.slot id).generation = 65534 :=
    ⟨fun e => BitVec.eq_of_toNat_eq e, fun e => by rw [e]; rfl⟩
  simp only [beginSave, h, hlimit]
  cases id <;> rfl

/-- The slots after a save, matched or not (R192). -/
theorem endSave_of_save {s : State} {buffer : Image} {target : SlotId} {gen : Word16}
    (h : s.unit = .executing (.save buffer target gen)) (matched : Bool) : endSave matched s =
      completeLong (if matched then .done else .storeFault) (showSlots { s.setSlot target
        (if matched then { generation := gen, image := buffer, checkMatches := true } else Slot.erased) with
        active := if matched then some target else s.active }) := by
  cases matched <;> cases target <;> simp [endSave, h, State.setSlot]

/-- Settles O50: the take's three cases and the completion's two. -/
theorem saveProfileWritesTheOtherSlot : Obligations.SaveProfileWritesTheOtherSlot := by
  unfold Obligations.SaveProfileWritesTheOtherSlot
  refine fun s => ⟨fun hc => ?_, fun buffer target gen matched hphase hunit => ?_⟩
  · have htake := longCommand_of_takesCommands (code := 0x30) (start := beginSave) hc
    refine ⟨fun hactive hgen => ?_, fun hgen => ?_⟩
    · refine htake.trans ?_
      cases ha : s.active with
      | none => exact absurd ha hactive
      | some id =>
        rw [beginSave_of_some (s := s.taken _) ha, if_pos]
        rw [ha] at hgen
        cases id <;> exact hgen
    · refine htake.trans ?_
      cases ha : s.active with
      | none =>
        rw [beginSave_of_none (s := s.taken _) ha]
        rfl
      | some id =>
        rw [ha] at hgen
        rw [beginSave_of_some (s := s.taken _) ha, if_neg]
        · cases id <;> rfl
        · have hgen := hgen.resolve_left nofun
          cases id <;> exact hgen
  · have hrun : s.running = true := (running_iff s).mpr ⟨hphase, by rw [hunit]; rfl⟩
    refine ⟨_, takeEvent_alone hrun rfl (endSave_of_save (s := s.without _) hunit matched), ?_⟩
    cases target <;> cases matched <;> exact ⟨rfl, rfl, rfl, rfl, rfl⟩

end Sys2Proof.Machine
end

section
/-! The register window: plain writes, the lines and flags, and what each cycle is (R43, R44, R169 to R175). -/

namespace Sys2Proof.Machine

/-! ## Plain writes -/

theorem vector4_ext {α : Type} {v w : Vector α 4} (h0 : v[0] = w[0]) (h1 : v[1] = w[1]) (h2 : v[2] = w[2]) (h3 : v[3] = w[3]) :
    v = w := by
  refine Vector.ext fun j hj => ?_
  match j, hj with
  | 0, _ => exact h0
  | 1, _ => exact h1
  | 2, _ => exact h2
  | 3, _ => exact h3

theorem toNat_append_bytes (hi lo : Byte) : ((hi ++ lo : BitVec 16)).toNat = hi.toNat * 256 + lo.toNat := by
  rw [BitVec.toNat_append, Nat.shiftLeft_eq, ← Nat.shiftLeft_eq, ← Nat.shiftLeft_add_eq_or_of_lt lo.isLt, Nat.shiftLeft_eq]

/-- Settles O54: each register's own write. -/
theorem plainRegisterWrites : Obligations.PlainRegisterWrites := by
  unfold Obligations.PlainRegisterWrites
  intro v s hphase
  have hwrite (r : Register) : exec (.registerWrite r v) s = .next (writePlain r v s) := strobe_of_released hphase
  have hclear : exec (.statusOverrunClear v) s = .next (if v.getLsbD 4 then { s with overrun := false } else s) :=
    strobe_of_released hphase
  have harg0 : s.args.set 0 v = #v[v, s.args[1], s.args[2], s.args[3]] := by apply vector4_ext <;> simp
  have harg1 : s.args.set 1 v = #v[s.args[0], v, s.args[2], s.args[3]] := by apply vector4_ext <;> simp
  have harg2 : s.args.set 2 v = #v[s.args[0], s.args[1], v, s.args[3]] := by apply vector4_ext <;> simp
  have harg3 : s.args.set 3 v = #v[s.args[0], s.args[1], s.args[2], v] := by apply vector4_ext <;> simp
  have hilt : s.index.toNat < 65536 := s.index.isLt
  refine ⟨⟨_, hwrite _, ?_⟩, ⟨_, hwrite _, ?_⟩, ⟨_, hwrite _, ?_⟩, ⟨_, hwrite _, ?_⟩, ⟨_, hwrite _, ?_, rfl⟩, ⟨_, hwrite _, ?_, rfl⟩,
    fun r hr => ?_, fun hv => ?_, fun hv => ?_, fun _ => hwrite _⟩
  · exact congrArg (fun w => { s with args := w }) harg0
  · exact congrArg (fun w => { s with args := w }) harg1
  · exact congrArg (fun w => { s with args := w }) harg2
  · exact congrArg (fun w => { s with args := w }) harg3
  · refine (toNat_append_bytes _ _).trans ?_
    rw [highByte, BitVec.toNat_ofNat]
    omega
  · refine (toNat_append_bytes _ _).trans ?_
    rw [lowByte, BitVec.toNat_ofNat]
  · rw [hwrite]
    simp only [List.mem_cons, List.not_mem_nil, or_false] at hr
    rcases hr with rfl | rfl | rfl | rfl | rfl <;> rfl
  · rw [hclear, if_pos hv]
  · rw [hclear, if_neg (Bool.eq_false_iff.mp hv)]

/-! ## The flags -/

/-- The bits of STATUS (R172). -/
theorem statusBits (done held executing booting lost : Bool) (m : Mode) :
    let v : Byte := BitVec.ofNat 8
      (done.toNat + 2 * held.toNat + 4 * executing.toNat + 8 * booting.toNat + 16 * lost.toNat + 32 * modeCode m)
    v.getLsbD 0 = done ∧ v.getLsbD 1 = held ∧ v.getLsbD 2 = executing ∧ v.getLsbD 3 = booting ∧ v.getLsbD 4 = lost
      ∧ v.toNat / 32 = modeCode m := by
  cases m <;> revert done held executing booting lost <;> decide

/-- The bits of CONTROL (R173). -/
theorem controlBits (nie die halted : Bool) :
    let v : Byte := BitVec.ofNat 8 (nie.toNat + 2 * die.toNat + 4 * halted.toNat)
    v.getLsbD 0 = nie ∧ v.getLsbD 1 = die ∧ v.getLsbD 2 = halted ∧ v.toNat < 8 := by
  revert nie die halted
  decide

theorem State.released_iff {s : State} : s.released = true ↔ s.phase = .released := by simp [State.released]

theorem ChanState.enAsserted_iff {x : ChanState} : x.enAsserted = true ↔ x = .ramp ∨ x = .on := by cases x <;> simp [ChanState.enAsserted]

/-- The level of EN of a running part (R43). -/
theorem State.enPin_of_running {s : State} (h : s.running = true) (c : Chan) : s.enPin c =
    match (s.chanConfig c).polarity with
    | .activeHigh => if (s.chan c).state = .ramp ∨ (s.chan c).state = .on then PinLevel.high else .low
    | .activeLow => if (s.chan c).state = .ramp ∨ (s.chan c).state = .on then PinLevel.low else .high := by
  rw [State.enPin, if_pos h]
  simp only [← ChanState.enAsserted_iff]
  cases (s.chanConfig c).polarity <;> cases (s.chan c).state.enAsserted <;> rfl

/-! ## The cycles -/

theorem commandCode_commandAt (v : Byte) : commandCode (commandAt v) = some v := by
  unfold commandAt
  split <;> rfl

theorem not_command_of_unknown {v x : Byte} (h : commandAt v = .unknown x) :
    v.toNat ∉ [0x01, 0x02, 0x03, 0x04, 0x10, 0x11, 0x12, 0x20, 0x30, 0x31, 0x32] := by
  have hlit {k : Nat} (hk : v.toNat = k) : v = BitVec.ofNat 8 k := by rw [← hk, BitVec.ofNat_toNat, BitVec.setWidth_eq]
  intro hmem
  simp only [List.mem_cons, List.not_mem_nil, or_false] at hmem
  rcases hmem with hk | hk | hk | hk | hk | hk | hk | hk | hk | hk | hk <;> rw [hlit hk] at h <;> cases h

theorem State.readCycleByte_of_released {s : State} (h : s.phase = .released) :
    s.readCycleByte = fun k => some (s.readRegister (registerAt k)) := by
  funext k
  rw [State.readCycleByte, if_pos (State.released_iff.mpr h)]

theorem State.readCycleByte_of_not_released {s : State} (h : s.phase ≠ .released) (k : Fin 16) : s.readCycleByte k = none :=
  if_neg (mt State.released_iff.mp h)

/-- The reported mode by its three facets (R129). -/
theorem State.mode_eq (s : State) : s.mode = match s.halted, s.stby.filtered, s.over with
    | true, _, _ => .halted
    | false, false, false => .run
    | false, false, true => .shed
    | false, true, false => .standby
    | false, true, true => .standbyShed := by
  unfold State.mode State.standbyFacet
  cases s.halted <;> cases s.stby.filtered <;> cases s.over <;> rfl

/-- Settles O55: the lines, the flags and the cycles. -/
theorem linesAndStatusShowTheState : Obligations.LinesAndStatusShowTheState := by
  unfold Obligations.LinesAndStatusShowTheState
  intro c s
  refine ⟨fun hr => if_neg (Bool.eq_false_iff.mp hr), fun hr level => ?_, ?_, fun hp => ?_, s.mode_eq,
    s.readCycleByte_of_not_released, fun hp => ?_, rfl, fun v => ⟨commandCode_commandAt v, fun x => not_command_of_unknown, rfl, rfl, rfl⟩⟩
  · rw [State.enPin_of_running hr]
    exact eq_comm
  · simp [State.intAsserted]
  · have hrel : s.released = true := State.released_iff.mpr hp
    obtain ⟨h0, h1, h2, h3, h4, hm⟩ := statusBits s.cmdDone (!s.fifo.isEmpty) (s.released && s.unit.isExecuting) s.booting s.overrun s.mode
    obtain ⟨k0, k1, k2, klt⟩ := controlBits s.nie s.die s.halted
    refine ⟨h0, ?_, ?_, ?_, h4, ?_, k0, k1, k2, klt⟩
    · rw [State.statusByte, h1]
      simp
    · rw [State.statusByte, h2, hrel]
      cases s.unit <;> simp [UnitState.isExecuting]
    · rw [State.statusByte, h3, State.booting, hrel]
      cases s.unit <;> simp [UnitState.isBooting]
    · rw [State.statusByte, hm]
      rfl
  · rw [State.readCycleByte_of_released hp]
    rfl

end Sys2Proof.Machine
end

section
/-! The reads with a side effect, and the byte DATA reads at every index (R164, R168, R174 to R186). -/

namespace Sys2Proof.Machine

/-! ## Where the bytes of the configuration space lie -/

theorem chanFieldAt_eq_none {n : Nat} (h : 9 ≤ n) : chanFieldAt n = none := by
  match n, h with
  | n + 9, _ => rfl

theorem loadFieldAt_eq_none {n : Nat} (h : 8 ≤ n) : loadFieldAt n = none := by
  match n, h with
  | n + 8, _ => rfl

theorem chanAt_eq_undefined {n : Nat} (h : 9 ≤ n % 16) : chanAt n = .undefined := by rw [chanAt, chanFieldAt_eq_none h]

theorem loadAt_eq_undefined {n : Nat} (h : 8 ≤ n % 16) : loadAt n = .undefined := by rw [loadAt, loadFieldAt_eq_none h]

theorem groupAt_eq_undefined {n : Nat} (h : 10 ≤ n % 16) : groupAt n = .undefined := by
  unfold groupAt
  split_ifs
  · omega
  · omega
  · omega
  · rfl
  · rfl

theorem locate_eq_undefined {index : Word16} (hinfo : ¬(index.toNat < 0x14 ∧ index.toNat ≠ 0x0F))
    (hchan : ¬(0x100 ≤ index.toNat ∧ index.toNat < 0x180 ∧ index.toNat % 16 < 9))
    (hload : ¬(0x200 ≤ index.toNat ∧ index.toNat < 0x2C0 ∧ index.toNat % 16 < 8))
    (hgroup : ¬(0x300 ≤ index.toNat ∧ index.toNat < 0x340 ∧ index.toNat % 16 < 10))
    (hglobal : ¬(0x400 ≤ index.toNat ∧ index.toNat < 0x408)) (hview : ¬(0x800 ≤ index.toNat ∧ index.toNat < 0x900)) :
    locate index = .undefined := by
  unfold locate
  dsimp only
  split_ifs
  · have h15 : index.toNat = 0x0F := by omega
    rw [h15]
    rfl
  · exact chanAt_eq_undefined (by omega)
  · exact loadAt_eq_undefined (by omega)
  · exact groupAt_eq_undefined (by omega)
  · rfl

theorem globalAt_inConfiguration_or_undefined (n : Nat) : (globalAt n).inConfiguration = true ∨ globalAt n = .undefined := by
  unfold globalAt
  split <;> simp [Location.inConfiguration]

theorem locate_inConfiguration_or_undefined {index : Word16} (hlow : 0x100 ≤ index.toNat) (hhigh : index.toNat < 0x800) :
    (locate index).inConfiguration = true ∨ locate index = .undefined := by
  unfold locate
  dsimp only
  split_ifs
  · omega
  · unfold chanAt
    split
    · split_ifs <;> simp [Location.inConfiguration]
    · exact .inr rfl
  · unfold loadAt
    split
    · split_ifs <;> simp [Location.inConfiguration]
    · exact .inr rfl
  · unfold groupAt
    split_ifs <;> simp [Location.inConfiguration]
  · exact globalAt_inConfiguration_or_undefined _
  · omega
  · exact .inr rfl

/-! ## What DATA reads -/

theorem State.dataByte_of_undefined {s : State} {index : Word16} (h : locate index = .undefined) : s.dataByte index = 0 := by
  simp [State.dataByte, h, State.locationByte]

theorem State.dataByte_of_not_loading {s : State} (h : s.loading = false) (index : Word16) :
    s.dataByte index = s.locationByte (locate index) := by
  simp [State.dataByte, h]

theorem State.dataByte_of_loading {s : State} {index : Word16} (h : s.loading = true) (hlow : 0x100 ≤ index.toNat)
    (hhigh : index.toNat < 0x800) : s.dataByte index = 0 := by
  rcases locate_inConfiguration_or_undefined hlow hhigh with hloc | hloc
  · rw [State.dataByte, h, hloc]
    rfl
  · exact State.dataByte_of_undefined hloc

theorem State.dataByte_of_outside {s : State} {index : Word16} (h : (locate index).inConfiguration = false) :
    s.dataByte index = s.locationByte (locate index) := by
  simp [State.dataByte, h]

theorem toNat_index {n : Nat} (h : n < 65536) : (BitVec.ofNat 16 n).toNat = n := by
  rw [BitVec.toNat_ofNat]
  omega

theorem locate_chan (c : Chan) {k : Nat} (h : k < 16) : locate (BitVec.ofNat 16 (0x100 + 16 * c.val + k)) =
    match chanFieldAt k with | some f => .chan c f | none => .undefined := by
  have hc := c.isLt
  have hdiv : (0x100 + 16 * c.val + k - 0x100) / 16 = c.val := by omega
  have hmod : (0x100 + 16 * c.val + k - 0x100) % 16 = k := by omega
  rw [locate, toNat_index (by omega)]
  rw [if_neg (by omega), if_pos (by omega), chanAt, hmod]
  cases chanFieldAt k with
  | none => rfl
  | some f =>
    dsimp only
    rw [dif_pos (by omega)]
    exact congrArg (fun x => Location.chan x f) (Fin.ext hdiv)

theorem locate_load (l : Load) {k : Nat} (h : k < 16) : locate (BitVec.ofNat 16 (0x200 + 16 * l.val + k)) =
    match loadFieldAt k with | some f => .load l f | none => .undefined := by
  have hl := l.isLt
  have hdiv : (0x200 + 16 * l.val + k - 0x200) / 16 = l.val := by omega
  have hmod : (0x200 + 16 * l.val + k - 0x200) % 16 = k := by omega
  rw [locate, toNat_index (by omega)]
  rw [if_neg (by omega), if_neg (by omega), if_pos (by omega), loadAt, hmod]
  cases loadFieldAt k with
  | none => rfl
  | some f =>
    dsimp only
    rw [dif_pos (by omega)]
    exact congrArg (fun x => Location.load x f) (Fin.ext hdiv)

theorem locate_group (g : Group) {k : Nat} (h : k < 16) : locate (BitVec.ofNat 16 (0x300 + 16 * g.val + k)) =
    if hk : k < 8 then .slot g ⟨k, hk⟩ else if k = 8 then .stagger g else if k = 9 then .memberCount g else .undefined := by
  have hg := g.isLt
  have hdiv : (0x300 + 16 * g.val + k - 0x300) / 16 = g.val := by omega
  have hmod : (0x300 + 16 * g.val + k - 0x300) % 16 = k := by omega
  have hgroup : (⟨(0x300 + 16 * g.val + k - 0x300) / 16, by omega⟩ : Group) = g := Fin.ext hdiv
  rw [locate, toNat_index (by omega)]
  rw [if_neg (by omega), if_neg (by omega), if_neg (by omega), if_pos (by omega), groupAt, dif_pos (by omega)]
  by_cases hk : k < 8
  · rw [dif_pos (by omega), dif_pos hk]
    exact congrArg₂ Location.slot hgroup (Fin.ext hmod)
  · rw [dif_neg (by omega), dif_neg hk, hmod, hgroup]

theorem locate_global {k : Nat} (h : k < 8) : locate (BitVec.ofNat 16 (0x400 + k)) = globalAt k := by
  rw [locate, toNat_index (by omega)]
  rw [if_neg (by omega), if_neg (by omega), if_neg (by omega), if_neg (by omega), if_pos (by omega), Nat.add_sub_cancel_left]

theorem locate_view {k : Nat} (h : k < 256) : locate (BitVec.ofNat 16 (0x800 + k)) = .view k := by
  rw [locate, toNat_index (by omega)]
  rw [if_neg (by omega), if_neg (by omega), if_neg (by omega), if_neg (by omega), if_neg (by omega), if_pos (by omega),
    Nat.add_sub_cancel_left]

theorem locate_info {k : Nat} (h : k < 0x14) : locate (BitVec.ofNat 16 (0 + k)) = infoAt k := by
  rw [locate, toNat_index (by omega)]
  rw [if_pos (by omega), Nat.zero_add]

/-- A run of bytes, read one after another. -/
theorem map_dataByte {s : State} (h : s.loading = false) {base n : Nat} {f : Nat → Location}
    (hl : ∀ k, k < n → locate (BitVec.ofNat 16 (base + k)) = f k) :
    (List.range n).map (fun k => s.dataByte (BitVec.ofNat 16 (base + k))) = (List.range n).map fun k => s.locationByte (f k) :=
  List.map_congr_left fun k hk => by rw [State.dataByte_of_not_loading h, hl k (List.mem_range.mp hk)]

/-! ## The view area -/

/-- A run of records of equal length. -/
theorem map_range'_eq_flatMap {α : Type} (f : Nat → α) (a n m : Nat) :
    (List.range' a (n * m)).map f = (List.range m).flatMap fun i => (List.range n).map fun j => f (a + n * i + j) := by
  induction m with
  | zero => rfl
  | succ m ih =>
    rw [List.range_succ, List.flatMap_append, ← ih, Nat.mul_succ, ← List.range'_append_1, List.map_append]
    congr 1
    simp [List.range'_eq_map_range]

theorem map_range'_split (f : Nat → Byte) (a n m : Nat) :
    (List.range' a (n + m)).map f = (List.range' a n).map f ++ (List.range' (a + n) m).map f := by
  rw [← List.map_append, List.range'_append_1]

/-- The regions of the view area (R185). -/
theorem map_range_viewArea (f : Nat → Byte) : (List.range 256).map f =
    (List.range' 0 10).map f ++ ((List.range' 10 6).map f ++ ((List.range' 0x10 (4 * 12)).map f ++ ((List.range' 0x40 1).map f
      ++ ((List.range' 0x41 (3 * 12)).map f ++ ((List.range' 0x65 11).map f ++ ((List.range' 0x70 (3 * 12)).map f
      ++ ((List.range' 0x94 12).map f ++ ((List.range' 0xA0 (4 * 8)).map f ++ ((List.range' 0xC0 1).map f
      ++ ((List.range' 0xC1 12).map f ++ (List.range' 0xCD 51).map f)))))))))) := by
  rw [List.range_eq_range', map_range'_split f 0 10 246, map_range'_split f 10 6 240, map_range'_split f 0x10 (4 * 12) 192,
    map_range'_split f 0x40 1 191, map_range'_split f 0x41 (3 * 12) 155, map_range'_split f 0x65 11 144,
    map_range'_split f 0x70 (3 * 12) 108, map_range'_split f 0x94 12 96, map_range'_split f 0xA0 (4 * 8) 64,
    map_range'_split f 0xC0 1 63, map_range'_split f 0xC1 12 51]

namespace Snapshot

variable (v : Snapshot)

theorem byte_of_ge {n : Nat} (h : 10 ≤ n) : v.byte n =
    if 0x10 ≤ n ∧ n < 0x40 then v.queueByte ((n - 0x10) / 4) ((n - 0x10) % 4)
    else if n = 0x40 then BitVec.ofNat 8 v.holders.length
    else if 0x41 ≤ n ∧ n < 0x65 then v.holderByte ((n - 0x41) / 3) ((n - 0x41) % 3)
    else if 0x70 ≤ n ∧ n < 0x94 then v.loadByte ((n - 0x70) / 3) ((n - 0x70) % 3)
    else if 0xA0 ≤ n ∧ n < 0xC0 then v.chanByte ((n - 0xA0) / 4) ((n - 0xA0) % 4)
    else if n = 0xC0 then BitVec.ofNat 8 v.resume.length
    else if 0xC1 ≤ n ∧ n < 0xCD then v.resumeByte (n - 0xC1)
    else 0 := by
  rw [byte, if_neg (by omega), if_neg (by omega), if_neg (by omega), if_neg (by omega), if_neg (by omega), if_neg (by omega),
    if_neg (by omega), if_neg (by omega), if_neg (by omega), if_neg (by omega)]

theorem byte_queue {i j : Nat} (hi : i < 12) (hj : j < 4) : v.byte (0x10 + 4 * i + j) = v.queueByte i j := by
  have hdiv : (0x10 + 4 * i + j - 0x10) / 4 = i := by omega
  have hmod : (0x10 + 4 * i + j - 0x10) % 4 = j := by omega
  rw [v.byte_of_ge (by omega), if_pos (by omega), hdiv, hmod]

theorem byte_holder {i j : Nat} (hi : i < 12) (hj : j < 3) : v.byte (0x41 + 3 * i + j) = v.holderByte i j := by
  have hdiv : (0x41 + 3 * i + j - 0x41) / 3 = i := by omega
  have hmod : (0x41 + 3 * i + j - 0x41) % 3 = j := by omega
  rw [v.byte_of_ge (by omega), if_neg (by omega), if_neg (by omega), if_pos (by omega), hdiv, hmod]

theorem byte_load {i j : Nat} (hi : i < 12) (hj : j < 3) : v.byte (0x70 + 3 * i + j) = v.loadByte i j := by
  have hdiv : (0x70 + 3 * i + j - 0x70) / 3 = i := by omega
  have hmod : (0x70 + 3 * i + j - 0x70) % 3 = j := by omega
  rw [v.byte_of_ge (by omega), if_neg (by omega), if_neg (by omega), if_neg (by omega), if_pos (by omega), hdiv, hmod]

theorem byte_chan {i j : Nat} (hi : i < 8) (hj : j < 4) : v.byte (0xA0 + 4 * i + j) = v.chanByte i j := by
  have hdiv : (0xA0 + 4 * i + j - 0xA0) / 4 = i := by omega
  have hmod : (0xA0 + 4 * i + j - 0xA0) % 4 = j := by omega
  rw [v.byte_of_ge (by omega), if_neg (by omega), if_neg (by omega), if_neg (by omega), if_neg (by omega), if_pos (by omega), hdiv,
    hmod]

theorem byte_resume {i : Nat} (hi : i < 12) : v.byte (0xC1 + i) = v.resumeByte i := by
  rw [v.byte_of_ge (by omega), if_neg (by omega), if_neg (by omega), if_neg (by omega), if_neg (by omega), if_neg (by omega),
    if_neg (by omega), if_pos (by omega), Nat.add_sub_cancel_left]

/-- The bytes between the regions are undefined. -/
theorem byte_gap {n : Nat} (h : 10 ≤ n ∧ n < 0x10 ∨ 0x65 ≤ n ∧ n < 0x70 ∨ 0x94 ≤ n ∧ n < 0xA0 ∨ 0xCD ≤ n) : v.byte n = 0 := by
  rw [v.byte_of_ge (by omega), if_neg (by omega), if_neg (by omega), if_neg (by omega), if_neg (by omega), if_neg (by omega),
    if_neg (by omega), if_neg (by omega)]

/-- A run of undefined bytes. -/
theorem map_byte_gap {a n : Nat} (h : ∀ k, a ≤ k → k < a + n → v.byte k = 0) : (List.range' a n).map v.byte = List.replicate n 0 := by
  refine List.eq_replicate_iff.mpr ⟨by simp, fun b hb => ?_⟩
  obtain ⟨k, hk, rfl⟩ := List.mem_map.mp hb
  obtain ⟨hlow, hhigh⟩ := List.mem_range'_1.mp hk
  exact h k hlow hhigh

/-- A run of records, each of as many bytes. -/
theorem map_byte_records {a n m : Nat} {f : Nat → Nat → Byte} (h : ∀ i < m, ∀ j < n, v.byte (a + n * i + j) = f i j) :
    (List.range' a (n * m)).map v.byte = (List.range m).flatMap fun i => (List.range n).map (f i) := by
  rw [map_range'_eq_flatMap]
  refine List.flatMap_congr fun i hi => List.map_congr_left fun j hj => ?_
  exact h i (List.mem_range.mp hi) j (List.mem_range.mp hj)

/-- The whole view area, region by region (R185). -/
theorem map_byte_eq : (List.range 256).map v.byte =
    (List.range' 0 10).map v.byte ++ (List.replicate 6 0
      ++ ((List.range 12).flatMap (fun i => (List.range 4).map (v.queueByte i)) ++ ([BitVec.ofNat 8 v.holders.length]
      ++ ((List.range 12).flatMap (fun i => (List.range 3).map (v.holderByte i)) ++ (List.replicate 11 0
      ++ ((List.range 12).flatMap (fun i => (List.range 3).map (v.loadByte i)) ++ (List.replicate 12 0
      ++ ((List.range 8).flatMap (fun i => (List.range 4).map (v.chanByte i)) ++ ([BitVec.ofNat 8 v.resume.length]
      ++ ((List.range 12).map v.resumeByte ++ List.replicate 51 0)))))))))) := by
  have hresume : (List.range' 0xC1 12).map v.byte = (List.range 12).map v.resumeByte := by
    rw [List.range'_eq_map_range, List.map_map]
    exact List.map_congr_left fun i hi => v.byte_resume (List.mem_range.mp hi)
  rw [map_range_viewArea, v.map_byte_gap (a := 10) fun k _ _ => v.byte_gap (by omega),
    v.map_byte_gap (a := 0x65) fun k _ _ => v.byte_gap (by omega), v.map_byte_gap (a := 0x94) fun k _ _ => v.byte_gap (by omega),
    v.map_byte_gap (a := 0xCD) fun k _ _ => v.byte_gap (by omega), v.map_byte_records fun i hi j hj => v.byte_queue hi hj,
    v.map_byte_records fun i hi j hj => v.byte_holder hi hj, v.map_byte_records fun i hi j hj => v.byte_load hi hj,
    v.map_byte_records fun i hi j hj => v.byte_chan hi hj, hresume]
  rfl

end Snapshot

/-! ## What the registers read -/

/-- A byte of the information region, whether or not the configuration is being loaded. -/
theorem State.dataByte_info (s : State) {k : Nat} (h : k < 20) :
    s.dataByte (BitVec.ofNat 16 (0 + k)) = s.locationByte (infoAt k) := by
  rw [State.dataByte_of_outside, locate_info h]
  rw [locate_info h]
  unfold infoAt
  split_ifs <;> rfl

theorem State.dataByte_view (s : State) {k : Nat} (h : k < 256) : s.dataByte (BitVec.ofNat 16 (0x800 + k)) = s.viewByte k := by
  rw [State.dataByte_of_outside, locate_view h]
  · rfl
  · rw [locate_view h]
    rfl

theorem maskLow_eq (mask : BitVec 12) : mask.setWidth 8 = BitVec.ofNat 8 mask.toNat := (BitVec.ofNat_toNat 8 mask).symm

theorem maskHigh_eq (mask : BitVec 12) : (mask >>> 8).setWidth 8 = BitVec.ofNat 8 (mask.toNat / 256) := by
  rw [maskLow_eq, BitVec.toNat_ushiftRight, Nat.shiftRight_eq_div_pow]

theorem noticeRead_of_nil {s : State} (h : s.fifo = []) : readNotice s = { s with busOut := some 0 } := by
  simp only [readNotice, State.readRegister, State.noticeByte, h]

theorem noticeRead_of_cons {s : State} {r : Record} {rest : List Record} (h : s.fifo = r :: rest) : readNotice s =
    if s.cursor = 4 then { s with busOut := some (recordByte r s.cursor), fifo := rest, cursor := 0 }
    else { s with busOut := some (recordByte r s.cursor), cursor := s.cursor + 1 } := by
  simp only [readNotice, State.readRegister, State.noticeByte, h]

/-- Settles O52: each read, and the byte at each place. -/
theorem readsWithSideEffects : Obligations.ReadsWithSideEffects := by
  unfold Obligations.ReadsWithSideEffects
  intro s hp
  refine ⟨?_, strobe_of_released (act := fun t => advanceIndex { t with busOut := some (t.readRegister .data) }) hp,
    strobe_of_released (act := fun t => { t with busOut := some (t.readRegister .clockLo), clockLatch := highByte t.clock.toNat }) hp,
    fun h => ?_, fun r rest h => ⟨fun hc => ?_, fun hc => ?_⟩, fun index => ?_,
    fun hload => ?_, ?_⟩
  · intro result load chan
    have hresult (x : ResultCode) : result x = resultByte x := by cases x <;> rfl
    refine ⟨?_, fun r => ?_⟩
    · rw [hresult]
      exact strobe_of_released (act := fun t => { t with busOut := some (t.readRegister .result), cmdDone := false }) hp
    · obtain ⟨n, time⟩ := r
      cases n with
      | granted l x | loadDown l x | fault c x | refused l x | mode x | boot x => cases x <;> rfl
      | loadUp l | shed l | pgStuck c | strayPg c | attach c | detach c | overflow n => rfl
  · exact (strobe_of_released hp).trans (by rw [noticeRead_of_nil h])
  · exact (strobe_of_released hp).trans (by rw [noticeRead_of_cons h, if_neg hc])
  · exact (strobe_of_released hp).trans (by rw [noticeRead_of_cons h, if_pos hc, hc])
  · intro n
    exact ⟨fun hload hlow hhigh => State.dataByte_of_loading hload hlow hhigh, fun h1 h2 h3 h4 h5 h6 =>
      State.dataByte_of_undefined (locate_eq_undefined h1 h2 h3 h4 h5 h6)⟩
  · intro at_
    refine ⟨fun c => ?_, fun l => ?_, fun g => ?_, ?_⟩
    · exact (map_dataByte hload fun k hk => locate_chan c (by omega)).trans rfl
    · exact (map_dataByte hload fun k hk => locate_load l (by omega)).trans rfl
    · exact (map_dataByte hload fun k hk => locate_group g (by omega)).trans rfl
    · rw [← maskLow_eq, ← maskHigh_eq]
      exact (map_dataByte hload fun k hk => locate_global (by omega)).trans rfl
  · intro at_ word bit cause slot reset reason mode origin loadState destination chanState undefined entry holder fault number
    have hslot (x : Option SlotId) : slot x = activeByte x := by
      cases x with
      | none => rfl
      | some id => cases id <;> rfl
    have hreset (x : ResetCause) : reset x = resetCauseByte x := by cases x <;> rfl
    have hreason (x : Reason) : reason x = reasonByte x := by cases x <;> rfl
    have hmode (x : Mode) : mode x = BitVec.ofNat 8 (modeCode x) := by cases x <;> rfl
    have horigin (x : Origin) : origin x = originByte x := by cases x <;> rfl
    have hstate (x : LoadState) : loadState x = loadStateByte x := by cases x <;> rfl
    have hafter (x : LoadState) : destination x = afterByte x := by
      cases x with
      | descending a => cases a <;> rfl
      | _ => rfl
    have hchan (x : ChanState) : chanState x = chanStateByte x := by cases x <;> rfl
    have hfault (x : Option FaultCause) : fault x = lastFaultByte x := by
      cases x with
      | none => rfl
      | some x => cases x <;> rfl
    have hlines (a b : Bool) : bit a + 2 * bit b = BitVec.ofNat 8 (a.toNat + 2 * b.toNat) := by cases a <;> cases b <;> rfl
    have hpins (x : ChannelView) : bit x.enAsserted + 2 * bit x.pg + 4 * bit x.flt + 8 * bit x.present = x.linesByte := by
      obtain ⟨_, _, _, en, pg, flt, present⟩ := x
      cases en <;> cases pg <;> cases flt <;> cases present <;> rfl
    refine ⟨?_, fun hnone => ?_, fun v hv => ?_⟩
    · rw [hslot, hreset, hreason, hlines]
      exact (List.map_congr_left fun k hk => s.dataByte_info (List.mem_range.mp hk)).trans rfl
    · refine List.eq_replicate_iff.mpr ⟨by simp, fun b hb => ?_⟩
      obtain ⟨k, hk, rfl⟩ := List.mem_map.mp hb
      refine (s.dataByte_view (List.mem_range.mp hk)).trans ?_
      rw [State.viewByte, hnone]
    · have hview : (List.range 256).map (at_ 0x800) = (List.range 256).map v.byte := by
        refine List.map_congr_left fun k hk => (s.dataByte_view (List.mem_range.mp hk)).trans ?_
        rw [State.viewByte, hv]
      have hentry (i : Nat) : (List.range 4).map (v.queueByte i) = entry v.queue[i]? := by
        unfold Snapshot.queueByte
        cases v.queue[i]? with
        | none => rfl
        | some e =>
          show _ = [BitVec.ofNat 8 e.load.val, BitVec.ofNat 8 e.priority.val, origin e.origin, BitVec.ofNat 8 e.overtaken]
          rw [horigin]
          rfl
      have hholder (i : Nat) : (List.range 3).map (v.holderByte i) = holder v.holders[i]? := by
        unfold Snapshot.holderByte
        cases v.holders[i]? <;> rfl
      have hloads : (List.range 12).flatMap (fun i => (List.range 3).map (v.loadByte i)) = allLoads.flatMap fun l =>
          [loadState (v.loads[l]).1, destination (v.loads[l]).1, BitVec.ofNat 8 (v.loads[l]).2] := by
        rw [show List.range 12 = allLoads.map Fin.val from rfl, List.flatMap_map]
        refine List.flatMap_congr fun l _ => ?_
        have hl : v.loads[l.val]? = some v.loads[l] := Vector.getElem?_eq_getElem l.isLt
        rw [hstate, hafter]
        unfold Snapshot.loadByte
        rw [hl]
        rfl
      have hchans : (List.range 8).flatMap (fun i => (List.range 4).map (v.chanByte i)) = allChans.flatMap fun c =>
          let ch := v.chans[c]
          [chanState ch.state, fault ch.lastFault, bit ch.stuck,
            bit ch.enAsserted + 2 * bit ch.pg + 4 * bit ch.flt + 8 * bit ch.present] := by
        rw [show List.range 8 = allChans.map Fin.val from rfl, List.flatMap_map]
        refine List.flatMap_congr fun c _ => ?_
        have hc : v.chans[c.val]? = some v.chans[c] := Vector.getElem?_eq_getElem c.isLt
        dsimp only
        rw [hchan, hfault, hpins]
        unfold Snapshot.chanByte
        rw [hc]
        rfl
      have hhead : (List.range' 0 10).map v.byte = word v.time.toNat ++ [mode v.mode] ++ word v.ceiling ++ word v.committed
          ++ word v.headroom ++ [BitVec.ofNat 8 v.queue.length] := by
        rw [hmode]
        rfl
      rw [hview, v.map_byte_eq, hhead, hloads, hchans]
      simp only [hentry, hholder, List.append_assoc]
      rfl

end Sys2Proof.Machine
end

section
/-! Requests and releases at the arbiter, by the load's state (R12 to R17, R75). -/

namespace Sys2Proof.Machine

/-! ## Requests -/

theorem Image.allEnabled_iff {img : Image} {l : Load} :
    img.allEnabled l = true ↔ ∀ c ∈ img.channelsOf l, (img.channels[c]).enabled = true := by
  simp [Image.allEnabled]

section
variable {o : Origin} {l : Load} {s : State}

/-- A request that leaves the load as it is (R12, R14). -/
theorem request_of_ignored (h : s.halted = true ∨ (s.load l).state ∈ [LoadState.queued, .rising, .up, .descending .requeue,
      .descending .retry, .cooling, .locked, .absorbed, .void]) :
    request o l s = (if s.halted then .halted
      else if (s.load l).state = .locked then .locked
      else if (s.load l).state = .absorbed then .member
      else if (s.load l).state = .void then .empty
      else .already, s) := by
  cases hh : s.halted with
  | true => simp [request, judge, hh]
  | false =>
    have hmem := h.resolve_left (Bool.eq_false_iff.mp hh)
    simp only [List.mem_cons, List.not_mem_nil, or_false] at hmem
    rcases hmem with hs | hs | hs | hs | hs | hs | hs | hs | hs <;> simp [request, judge, hh, hs]

section
variable (hh : s.halted = false)
include hh

theorem request_of_descending_idle (h : (s.load l).state = .descending .idle) :
    request o l s = (.accepted, s.setLoad l { s.load l with state := .descending .requeue }) := by
  simp [request, judge, hh, h]

theorem request_of_draining (h : (s.load l).state = .draining) :
    request o l s =
      (.accepted, selectIfSeeking (grantPass ((s.setLoad l { s.load l with state := .up }).post (.cancelDrain l)))) := by
  simp [request, judge, hh, h]

/-- A request of an IDLE load (R13). -/
theorem request_of_idle (h : (s.load l).state = .idle) :
    request o l s =
      if s.config.allEnabled l = false then (.disabled, s)
      else if s.config.full < s.config.claimOf l then (.oversize, s)
      else (.accepted, grantPass (enqueue o l s)) := by
  unfold request judge
  simp only [hh, h, Bool.false_eq_true, if_false]
  cases s.config.allEnabled l with
  | false => rfl
  | true =>
    simp only [Bool.not_true, Bool.false_eq_true, if_false]
    by_cases hc : s.config.full < s.config.claimOf l
    · rw [if_pos hc, if_neg nofun, if_pos hc]
    · rw [if_neg hc, if_neg nofun, if_neg hc]

end

end

/-- Settles O10: a request that changes nothing, and the two that change a load's course. -/
theorem requestOfALoadNotIdle : Obligations.RequestOfALoadNotIdle := by
  unfold Obligations.RequestOfALoadNotIdle
  intro l s hc harg
  have hexec : exec .request s = _ := immediate_of_takesCommands hc
  rw [onLoad_of_arg harg] at hexec
  refine ⟨fun h => ?_, fun hh hs => ?_, fun hh hs => ?_⟩
  · rw [hexec, request_of_ignored (s := s.taken 0x01) h]
    rfl
  · rw [hexec, request_of_descending_idle (s := s.taken 0x01) hh hs]
    rfl
  · rw [hexec, request_of_draining (s := s.taken 0x01) hh hs]
    rfl

/-- An arrival stands behind every entry of equal or higher priority, ahead of every other (R23). -/
theorem insertEntry_splits_sorted (e : Entry) {q : List Entry} (hq : q.Pairwise fun a b => b.priority ≤ a.priority) :
    ∃ ahead behind, q = ahead ++ behind ∧ insertEntry e q = ahead ++ e :: behind
      ∧ (∀ x ∈ ahead, e.priority ≤ x.priority) ∧ ∀ x ∈ behind, x.priority < e.priority := by
  obtain ⟨ahead, behind, rfl, hinsert, hahead, hhead⟩ := insertEntry_splits e q
  refine ⟨ahead, behind, rfl, hinsert, hahead, ?_⟩
  cases behind with
  | nil => simp
  | cons y ys =>
    have hy : y.priority < e.priority := hhead y (by simp)
    have hys := (List.pairwise_cons.mp (List.pairwise_append.mp hq).2.1).1
    rintro x (_ | ⟨_, hx⟩)
    · exact hy
    · exact lt_of_le_of_lt (hys x hx) hy

/-- Settles O11: the two refusals, and the entry in its place. -/
theorem requestQueuesAnIdleLoad : Obligations.RequestQueuesAnIdleLoad := by
  unfold Obligations.RequestQueuesAnIdleLoad
  intro l s hc harg hh hs
  have hexec : exec .request s = _ := immediate_of_takesCommands hc
  rw [onLoad_of_arg harg, request_of_idle (s := s.taken 0x01) hh hs] at hexec
  refine ⟨fun hdisabled => ?_, fun hall hclaim => ?_, fun hall hclaim hsorted => ?_⟩
  · have hnot : s.config.allEnabled l = false := by
      rw [Bool.eq_false_iff, Ne, Image.allEnabled_iff]
      obtain ⟨c, hmem, hoff⟩ := hdisabled
      exact fun hon => Bool.eq_false_iff.mp hoff (hon c hmem)
    rw [hexec]
    exact congrArg (fun r : ResultCode × State => Host.Outcome.next (r.2.completed r.1)) (if_pos hnot)
  all_goals
    have hon : ¬(s.taken 0x01).config.allEnabled l = false := Bool.not_eq_false _ ▸ Image.allEnabled_iff.mpr hall
    rw [if_neg hon] at hexec
  · rw [hexec]
    exact congrArg (fun r : ResultCode × State => Host.Outcome.next (r.2.completed r.1)) (if_pos hclaim)
  · obtain ⟨ahead, behind, hq, hinsert, hahead, hbehind⟩ := insertEntry_splits_sorted
      { load := l, priority := (s.loadConfig l).priority, origin := .host, overtaken := 0 } hsorted
    refine ⟨ahead, behind, hq, hahead, hbehind, ?_⟩
    rw [hexec, ← hinsert]
    exact congrArg (fun r : ResultCode × State => Host.Outcome.next (r.2.completed r.1)) (if_neg hclaim.not_gt)

/-! ## Releases -/

section
variable {l : Load} {s : State}

theorem releaseByState_of_already (h : (s.load l).state ∈ [LoadState.idle, .draining, .descending .idle]) :
    releaseByState l s = (.already, s) := by
  simp only [List.mem_cons, List.not_mem_nil, or_false] at h
  rcases h with h | h | h <;> simp only [releaseByState, h]

theorem releaseByState_of_refused (h : (s.load l).state ∈ [LoadState.locked, .absorbed, .void]) :
    releaseByState l s =
      (if (s.load l).state = .locked then .locked else if (s.load l).state = .absorbed then .member else .empty, s) := by
  simp only [List.mem_cons, List.not_mem_nil, or_false] at h
  rcases h with h | h | h <;> simp [releaseByState, h]

theorem releaseByState_of_returning (h : (s.load l).state ∈ [LoadState.descending .requeue, .descending .retry]) :
    releaseByState l s = (.accepted, s.setLoad l { s.load l with state := .descending .idle }) := by
  simp only [List.mem_cons, List.not_mem_nil, or_false] at h
  rcases h with h | h <;> simp only [releaseByState, h]

theorem releaseByState_of_cooling (h : (s.load l).state = .cooling) : releaseByState l s = (.accepted, enterIdle l s) := by
  simp only [releaseByState, h]

theorem releaseByState_of_queued (h : (s.load l).state = .queued) : releaseByState l s =
    (.accepted, grantPass (enterIdle l { s with queue := s.queue.filter (·.load != l) })) := by
  simp only [releaseByState, h]

theorem releaseByState_of_rising (h : (s.load l).state = .rising) :
    releaseByState l s = (.accepted, descendInOrder l .idle s) := by
  simp only [releaseByState, h]

theorem releaseByState_of_undepended (h : (s.load l).state = .up) (hno : s.noHoldingDescendant l) :
    releaseByState l s = (.accepted, descendInOrder l .idle s) := by
  simp only [releaseByState, h, if_pos (State.holdingDescendants_isEmpty.mpr hno)]

theorem releaseByState_of_depended (h : (s.load l).state = .up) (hd : ¬s.noHoldingDescendant l) :
    releaseByState l s = (.accepted, beginDrain l s) := by
  simp only [releaseByState, h, if_neg (mt State.holdingDescendants_isEmpty.mp hd)]

/-- A release that finds the load down already, or on its way down for good (R16, R17). -/
theorem releaseLoad_of_already (h : (s.load l).state ∈ [LoadState.idle, .draining, .descending .idle]) :
    releaseLoad l s = (if l ∈ s.resume then .accepted else .already, { s with resume := s.resume.filter (· != l) }) := by
  unfold releaseLoad
  dsimp only
  rw [releaseByState_of_already (s := { s with resume := s.resume.filter (· != l) }) h]
  simp only [true_and, List.contains_iff_mem]

/-- A release with an effect, or a refused one (R16, R17). -/
theorem releaseLoad_of_other {r : ResultCode × State} (h : releaseByState l { s with resume := s.resume.filter (· != l) } = r)
    (hr : r.1 ≠ .already) : releaseLoad l s = r := by
  unfold releaseLoad
  dsimp only
  rw [h, if_neg fun h => hr h.1]

end

/-- A release as a command. -/
theorem exec_release {l : Load} {s : State} (hc : s.takesCommands) (harg : s.args[0].toNat = l.val) :
    exec .release s = .next ((releaseLoad l (s.taken 0x02)).2.completed (releaseLoad l (s.taken 0x02)).1) := by
  refine (immediate_of_takesCommands hc).trans ?_
  rw [onLoad_of_arg harg]

/-- Settles O12: each state from which nothing is lowered. -/
theorem releaseThatLowersNothing : Obligations.ReleaseThatLowersNothing := by
  unfold Obligations.ReleaseThatLowersNothing
  intro l s hc harg
  rw [exec_release hc harg]
  refine ⟨fun h => ?_, fun h => ?_, fun h => ?_, fun h => ?_, fun h => ?_⟩
  · rw [releaseLoad_of_already (s := s.taken 0x02) h]
    rfl
  · rw [releaseLoad_of_other (s := s.taken 0x02) (releaseByState_of_refused h)]
    · rfl
    · dsimp only
      split_ifs <;> nofun
  · rw [releaseLoad_of_other (s := s.taken 0x02) (releaseByState_of_returning h) nofun]
    rfl
  · rw [releaseLoad_of_other (s := s.taken 0x02) (releaseByState_of_cooling h) nofun]
    rfl
  · rw [releaseLoad_of_other (s := s.taken 0x02) (releaseByState_of_queued h) nofun]
    rfl

/-- Settles O13: the two cases of an orderly descent at once. -/
theorem releaseLowersALoad : Obligations.ReleaseLowersALoad := by
  unfold Obligations.ReleaseLowersALoad
  rintro l s hc harg (h | ⟨h, hno⟩)
  · rw [exec_release hc harg, releaseLoad_of_other (s := s.taken 0x02) (releaseByState_of_rising h) nofun]
    rfl
  · rw [exec_release hc harg, releaseLoad_of_other (s := s.taken 0x02) (releaseByState_of_undepended h hno) nofun]
    rfl

/-! ## Drains -/

theorem State.load_setLoad (s : State) (l x : Load) (r : LoadRun) :
    (s.setLoad l r).load x = if x = l then r else s.load x := by
  rw [State.setLoad_load]
  exact if_congr eq_comm rfl rfl

/-- An operation on one load: what becomes of its record, and what the arbiter sends. -/
def onRecord (g : LoadRun → LoadRun) (p : Load → LoadRun → List Instr) (s : State) (x : Load) : State :=
  { s with loads := s.loads.set x (g (s.load x)), posted := s.posted ++ p x (s.load x) }

section
variable (g : LoadRun → LoadRun) (p : Load → LoadRun → List Instr)

theorem foldl_onRecord_frame (ls : List Load) (s : State) :
    ls.foldl (onRecord g p) s =
      { s with loads := (ls.foldl (onRecord g p) s).loads, posted := (ls.foldl (onRecord g p) s).posted } := by
  induction ls generalizing s with
  | nil => rfl
  | cons x ls ih => exact ih _

theorem foldl_onRecord_load {ls : List Load} (hls : ls.Nodup) (s : State) (y : Load) :
    (ls.foldl (onRecord g p) s).load y = if y ∈ ls then g (s.load y) else s.load y := by
  induction ls generalizing s with
  | nil => rfl
  | cons x ls ih =>
    obtain ⟨hx, hls⟩ := List.nodup_cons.mp hls
    have hstep : (onRecord g p s x).load y = if y = x then g (s.load x) else s.load y := State.load_setLoad s x y _
    rw [List.foldl_cons, ih hls, hstep]
    by_cases hy : y = x
    · subst hy
      simp [hx]
    · simp [hy]

theorem foldl_onRecord_posted {ls : List Load} (hls : ls.Nodup) (s : State) :
    (ls.foldl (onRecord g p) s).posted = s.posted ++ ls.flatMap fun x => p x (s.load x) := by
  induction ls generalizing s with
  | nil => simp
  | cons x ls ih =>
    obtain ⟨hx, hls⟩ := List.nodup_cons.mp hls
    rw [List.foldl_cons, ih hls, List.flatMap_cons, ← List.append_assoc]
    refine congrArg (s.posted ++ p x (s.load x) ++ ·) (List.flatMap_congr fun y hy => ?_)
    have hstep : (onRecord g p s x).load y = s.load y :=
      (State.load_setLoad s x y _).trans (if_neg (by rintro rfl; exact hx hy))
    rw [hstep]

end

/-- What a drain makes of a descendant (R75). -/
def LoadRun.drained (r : LoadRun) : LoadRun :=
  match r.state with
  | .rising | .up => { r with state := .descending .requeue, stable := .stopped }
  | .draining => { r with state := .descending .idle, stable := .stopped }
  | .idle | .queued | .descending _ | .cooling | .locked | .absorbed | .void => r

theorem drainDescendant_eq : drainDescendant =
    onRecord LoadRun.drained fun x r => if r.state.standing then [.orderlyDescentOrder x] else [] := by
  funext s x
  unfold drainDescendant onRecord LoadRun.drained
  dsimp only
  cases hs : (s.load x).state with
  | rising | up | draining => rfl
  | _ =>
    have hset : s.loads.set x (s.load x) = s.loads := Vector.set_getElem_self _
    simp [LoadState.standing, hset]

theorem recordToDrain_eq (l : Load) (s : State) : recordToDrain l s = { s with
    posted := s.posted.filter fun i => i != .cancelDrain l && i != .drainEnded l
    seq := s.seq.set l ((s.record l).map fun r => { r with phase := .drain, drainReported := false }) } := by
  unfold recordToDrain
  dsimp only
  cases h : s.record l with
  | none =>
    have hrec : (({ s with posted := s.posted.filter fun i => i != .cancelDrain l && i != .drainEnded l } : State).record l) = none := h
    rw [hrec]
    exact (State.setRecord_self hrec).symm
  | some r =>
    have hrec : (({ s with posted := s.posted.filter fun i => i != .cancelDrain l && i != .drainEnded l } : State).record l) = some r := h
    rw [hrec]
    rfl

theorem flatMap_ite_singleton {α β : Type} (p : α → Bool) (f : α → β) (xs : List α) :
    (xs.flatMap fun x => if p x then [f x] else []) = (xs.filter p).map f := by
  induction xs with
  | nil => rfl
  | cons x xs ih => cases hx : p x <;> simp [hx, ih]

/-- Settles O14: the released load drains, and each holding descendant goes down once. -/
theorem releaseDrainsTheSubtree : Obligations.ReleaseDrainsTheSubtree := by
  unfold Obligations.ReleaseDrainsTheSubtree
  intro l s hc harg hup hself hsound hholding
  obtain ⟨hnodup, -, -⟩ := hsound
  set u : State := { s.taken 0x02 with resume := s.resume.filter (· != l) } with hu
  have hdrain : releaseLoad l (s.taken 0x02) = (.accepted, beginDrain l u) :=
    releaseLoad_of_other (s := s.taken 0x02) (releaseByState_of_depended (s := u) hup hholding) nofun
  have hlist : (u.holdingDescendants l).Nodup := hnodup.filter _
  have hmem (x : Load) : x ∈ u.holdingDescendants l ↔ s.holds x = true ∧ s.descendantOf x l = true :=
    State.mem_holdingDescendants (s := u)
  have hl : l ∉ u.holdingDescendants l := fun h => by
    rw [((hmem l).mp h).2] at hself
    cases hself
  set d : State := u.setLoad l { u.load l with state := .draining } with hd
  have hdload (x : Load) : d.load x = if x = l then { s.load l with state := .draining } else s.load x :=
    State.load_setLoad u l x _
  set v : State := (u.holdingDescendants l).foldl drainDescendant d with hv
  rw [drainDescendant_eq] at hv
  have hload (x : Load) := (congrArg (·.load x) hv).trans (foldl_onRecord_load _ _ hlist d x)
  have hposted := (congrArg State.posted hv).trans (foldl_onRecord_posted _ _ hlist d)
  have hframe : v = { d with loads := v.loads, posted := v.posted } := by
    rw [hv]
    exact foldl_onRecord_frame _ _ _ d
  have hbegin : beginDrain l u = _ := recordToDrain_eq l v
  rw [exec_release hc harg, hdrain, hbegin]
  refine ⟨_, rfl, ?_, fun x hx => ?_, ?_, fun x => ?_, ?_⟩
  · refine (hload l).trans ?_
    rw [if_neg hl, hdload, if_pos rfl]
  · refine (hload x).trans ?_
    rw [hdload, if_neg hx]
    refine if_congr (hmem x) ?_ rfl
    unfold LoadRun.drained
    cases (s.load x).state <;> rfl
  · have horders : v.posted = s.posted ++ ((s.holders.map (·.load)).filter
        fun x => s.descendantOf x l && (s.load x).state.standing).map Instr.orderlyDescentOrder := by
      rw [hposted]
      refine congrArg (s.posted ++ ·) ?_
      have hkept : ∀ x ∈ u.holdingDescendants l, d.load x = s.load x := fun x hx =>
        (hdload x).trans (if_neg (by rintro rfl; exact hl hx))
      calc
        _ = (u.holdingDescendants l).flatMap fun x => if (s.load x).state.standing then [.orderlyDescentOrder x] else [] :=
          List.flatMap_congr fun x hx => by rw [hkept x hx]
        _ = ((u.holdingDescendants l).filter fun x => (s.load x).state.standing).map Instr.orderlyDescentOrder :=
          flatMap_ite_singleton _ _ _
        _ = _ := by
          refine congrArg (List.map _) (List.filter_filter.trans (List.filter_congr fun x _ => ?_))
          exact Bool.and_comm _ _
    refine (congrArg (List.filter _) horders).trans ?_
    rw [List.filter_append]
    refine congrArg (List.filter _ s.posted ++ ·) (List.filter_eq_self.mpr fun i hi => ?_)
    obtain ⟨x, -, rfl⟩ := List.mem_map.mp hi
    rfl
  · have hseq : v.seq = s.seq := by rw [hframe]; rfl
    have hrecord (y : Load) : v.record y = s.record y := congrArg (·[y]) hseq
    refine (State.record_setRecord v l x _).trans ?_
    rw [hrecord, hrecord]
  · rw [hframe]
    rfl

end Sys2Proof.Machine
end

section
/-! Reports and expiries at the arbiter, and the end of a descent with what the standby descent does at it (R15, R18, R19, R72,
R87 to R90, R119, R120). -/

namespace Sys2Proof.Machine

/-! ## "load UP" and the timers of a load -/

section
variable {l : Load} {s : State}

theorem takeLoadUp_of_rising (h : (s.load l).state = .rising) : takeLoadUp l s =
    grantPass (handOver (.loadUp l) (s.setLoad l { s.load l with
      state := .up, stable := .running ((s.loadConfig l).stableTime.toNat * 100) })) := by
  simp only [takeLoadUp, h]

theorem takeLoadUp_of_other (h : (s.load l).state ≠ .rising) : takeLoadUp l s = s := by
  unfold takeLoadUp
  split
  next hr => exact absurd hr h
  all_goals rfl

theorem takeCoolDownExpiry_of_cooling (h : (s.load l).state = .cooling) (ht : (s.load l).cooling ≠ .stopped) :
    takeCoolDownExpiry l s = grantPass (enqueue .retry l (s.setLoad l { s.load l with cooling := .stopped })) := by
  unfold takeCoolDownExpiry
  cases hc : (s.load l).cooling with
  | stopped => exact absurd hc ht
  | running n => rw [h]

theorem takeCoolDownExpiry_of_other (h : (s.load l).state ≠ .cooling ∨ (s.load l).cooling = .stopped) :
    takeCoolDownExpiry l s = s := by
  unfold takeCoolDownExpiry
  split
  next hs ht => rcases h with h | h <;> simp_all
  next => rfl

theorem takeStableExpiry_of_running (h : (s.load l).stable ≠ .stopped) :
    takeStableExpiry l s = s.setLoad l { s.load l with attempts := 0, stable := .stopped } := by
  unfold takeStableExpiry
  split
  next => rfl
  next hs => exact absurd hs h

theorem takeStableExpiry_of_stopped (h : (s.load l).stable = .stopped) : takeStableExpiry l s = s := by
  simp only [takeStableExpiry, h]

end

/-- Settles O22: the report in RISING and in every other state. -/
theorem loadUpReport : Obligations.LoadUpReport := by
  unfold Obligations.LoadUpReport
  refine fun l s hr ho => ⟨fun h => ?_, fun h => ?_⟩
  · refine takeInOrder_alone hr rfl ho ((takeLoadUp_of_rising (s := s.without _) h).trans ?_)
    rw [handOver_eq]
    rfl
  · rw [State.consume_eq _ rfl]
    exact takeInOrder_alone hr rfl ho (takeLoadUp_of_other (s := s.without _) h)

/-- Settles O23: both expiries, and a stopped timer. -/
theorem loadTimerExpiries : Obligations.LoadTimerExpiries := by
  unfold Obligations.LoadTimerExpiries
  refine fun l s hr => ⟨fun h ht => ?_, fun h => ?_, fun h => ?_, fun h => ?_⟩
  · refine takeEvent_alone hr rfl ((takeCoolDownExpiry_of_cooling (s := s.without _) h ht).trans (congrArg grantPass ?_))
    rw [enqueue_eq, State.load_setLoad, if_pos rfl]
    simp only [State.setLoad, Vector.set_set]
    rfl
  · rw [State.consume_eq _ rfl]
    exact takeEvent_alone hr rfl (takeCoolDownExpiry_of_other (s := s.without _) h)
  · exact takeEvent_alone hr rfl (takeStableExpiry_of_running (s := s.without _) h)
  · rw [State.consume_eq _ rfl]
    exact takeEvent_alone hr rfl (takeStableExpiry_of_stopped (s := s.without _) h)

/-! ## The end of a descent -/

/-- The state a load enters at the end of its descent (R19, R87). -/
def State.afterDescent (s : State) (l : Load) (a : After) : DownState :=
  Machine.afterDescent a (s.load l).attempts (s.loadConfig l).retryLimit

/-- What the end of a descent leaves before the grant pass (R18, R19, R107). -/
def descentSettled (l : Load) (a : After) (s : State) : State :=
  noteMode s.mode (settleLoad l (s.afterDescent l a)
    (handOver (.loadDown l (s.afterDescent l a))
      (State.post { s with holders := s.holders.filter fun h => h.load != l } (.returnReport l))))

theorem takeDescentEnded_of_descending {l : Load} {a : After} {s : State} (h : (s.load l).state = .descending a) :
    takeDescentEnded l s = continueDescent l (grantPass (descentSettled l a s)) := by
  simp only [takeDescentEnded, h]
  rfl

/-- Cool-down of the next attempt, as the table gives it (R88). -/
theorem coolDown_succ (base : Byte) (k : Nat) :
    coolDown base (k + 1) = base.toNat * 10 * [1, 2, 4, 8, 8, 8, 8].getD k 8 := by
  match k with
  | 0 | 1 | 2 | 3 | 4 | 5 | 6 => rfl
  | k + 7 =>
    have hmin : min (k + 7 + 1) 4 = 4 := by omega
    rw [coolDown, hmin]
    rfl

theorem settleLoad_frame (l : Load) (next : DownState) (s : State) :
    settleLoad l next s = { s with loads := (settleLoad l next s).loads, queue := (settleLoad l next s).queue } := by
  cases next <;> rfl

theorem settleLoad_load_of_ne {l x : Load} (h : x ≠ l) (next : DownState) (s : State) :
    (settleLoad l next s).load x = s.load x := by
  cases next <;> exact (State.load_setLoad s l x _).trans (if_neg h)

/-- The load's return, before it settles (R18). -/
def descentReturned (l : Load) (a : After) (s : State) : State :=
  { s with
    holders := s.holders.filter fun h => h.load != l
    posted := s.posted ++ [.returnReport l]
    fifo := s.fifoAfter [.loadDown l (s.afterDescent l a)] }

theorem descentSettled_eq (l : Load) (a : After) (s : State) :
    let w := settleLoad l (s.afterDescent l a) (descentReturned l a s)
    descentSettled l a s = { w with fifo := w.fifoAfter (modeNotice s.mode w.mode) } := by
  dsimp only
  rw [descentSettled, handOver_eq, noteMode_eq]
  rfl

/-- Settles O24: the account, the queue and the load by its after value. -/
theorem descentEndedSettlesTheLoad : Obligations.DescentEndedSettlesTheLoad := by
  unfold Obligations.DescentEndedSettlesTheLoad
  intro l a s hr ho hinactive hdesc
  set x := s.without (.descentEnded l) with hx
  set next := x.afterDescent l a with hnext
  set t := descentReturned l a x with ht
  set w := settleLoad l next t with hw
  have hsettled : descentSettled l a x = { w with fifo := w.fifoAfter (modeNotice x.mode w.mode) } := descentSettled_eq l a x
  have hframe : w = { t with loads := w.loads, queue := w.queue } := settleLoad_frame l next t
  have hdescent : (grantPass (descentSettled l a x)).descent = .inactive := by
    obtain ⟨_, _, _, _, _, hpass⟩ := grantPass_changes (descentSettled l a x)
    rw [hpass, hsettled, hframe]
    exact hinactive
  have hself (r : LoadRun) : (t.setLoad l r).load l = r := (State.load_setLoad t l l r).trans (if_pos rfl)
  refine ⟨descentSettled l a x, next, takeInOrder_alone hr rfl ho ?_, ?_, ?_, fun y hy => ?_, ?_, ?_, ?_⟩
  · refine (takeDescentEnded_of_descending (s := x) hdesc).trans ?_
    rw [continueDescent, hdescent]
  · rw [hsettled, hframe]
    rfl
  · rw [hsettled, hframe]
    rfl
  · rw [hsettled]
    exact settleLoad_load_of_ne hy next t
  · have hload : (descentSettled l a x).load l = w.load l := by rw [hsettled]; rfl
    have hqueue : (descentSettled l a x).queue = w.queue := by rw [hsettled]
    rw [hload, hqueue]
    cases a with
    | idle => exact ⟨rfl, rfl, hself _⟩
    | requeue => exact ⟨rfl, hself _, rfl⟩
    | retry =>
      by_cases hlimit : (s.load l).attempts < (s.loadConfig l).retryLimit.val
      · have hcooling : next = .cooling := if_pos hlimit
        rw [hcooling] at hw
        dsimp only
        rw [if_pos hlimit, hw, ← coolDown_succ]
        exact ⟨hcooling, rfl, hself _⟩
      · have hlocked : next = .locked := if_neg hlimit
        rw [hlocked] at hw
        dsimp only
        rw [if_neg hlimit, hw]
        exact ⟨hlocked, rfl, hself _⟩
  · have hmode : (descentSettled l a x).mode = w.mode := by rw [hsettled]; rfl
    rw [hmode, hsettled, hframe]
    exact (fifoAfter_append s [.loadDown l next] _).symm
  · rw [hsettled, hframe]
    rfl

/-! ## The standby descent at the end of a descent -/

/-- A change of the state that no grant pass reads or undoes. -/
structure PassBlind (f : State → State) : Prop where
  eligible : ∀ s e, eligible (f s) e = eligible s e
  headroom : ∀ s, (f s).headroom = s.headroom
  config : ∀ s, (f s).config = s.config
  queue : ∀ s, (f s).queue = s.queue
  stopped : ∀ s, ((f s).halted || (f s).over) = (s.halted || s.over)
  setQueue : ∀ s q, ({ f s with queue := q } : State) = f { s with queue := q }
  grant : ∀ s e, grant e (f s) = f (grant e s)

theorem PassBlind.scan {f : State → State} (hf : PassBlind f) (q : List Entry) (s : State) :
    scan q (f s) = ((scan q s).1, (scan q s).2.1, f (scan q s).2.2) := by
  induction q generalizing s with
  | nil => rfl
  | cons e q ih =>
    simp only [Machine.scan, hf.eligible, hf.grant, hf.headroom, hf.config, ih]
    split_ifs <;> rfl

theorem PassBlind.grantPass {f : State → State} (hf : PassBlind f) (s : State) : grantPass (f s) = f (grantPass s) := by
  simp only [Machine.grantPass, hf.stopped, hf.queue, hf.scan, hf.setQueue]
  split_ifs <;> rfl

/-- The standby descent in another phase. -/
def State.withDescent (s : State) (d : Descent) : State := { s with descent := d }

section
variable (d : Descent)

theorem withDescent_passBlind : PassBlind (State.withDescent · d) where
  eligible _ _ := rfl
  headroom _ := rfl
  config _ := rfl
  queue _ := rfl
  stopped _ := rfl
  setQueue _ _ := rfl
  grant s e := by
    rw [grant_eq, grant_eq]
    rfl

/-- A grant pass does not read the standby descent. -/
theorem grantPass_withDescent (s : State) : grantPass (s.withDescent d) = (grantPass s).withDescent d :=
  (withDescent_passBlind d).grantPass s

theorem descentSettled_withDescent (l : Load) (a : After) (s : State) :
    descentSettled l a (s.withDescent d) = (descentSettled l a s).withDescent d := by
  have hw : settleLoad l (s.afterDescent l a) (descentReturned l a (s.withDescent d)) =
      (settleLoad l (s.afterDescent l a) (descentReturned l a s)).withDescent d := by
    cases s.afterDescent l a <;> rfl
  have h := descentSettled_eq l a (s.withDescent d)
  dsimp only at h
  rw [show (s.withDescent d).afterDescent l a = s.afterDescent l a from rfl, hw] at h
  exact h.trans (congrArg (State.withDescent · d) (descentSettled_eq l a s)).symm

/-- A selection replaces the phase. -/
theorem select_withDescent (s : State) : select (s.withDescent d) = select s := by
  have hcandidates : (s.withDescent d).standbyCandidates = s.standbyCandidates := rfl
  have hconfig : (s.withDescent d).loadConfig = s.loadConfig := rfl
  unfold select
  rw [hcandidates, hconfig]
  split <;> rfl

end

/-- The order on the links rests on what is in flight and on the configuration. -/
theorem State.older_congr {s t : State} (hp : t.posted = s.posted) (hs : t.sources = s.sources) (hc : t.config = s.config)
    (i : Instr) : t.older i = s.older i := by
  have hflight : t.flight = s.flight := by rw [State.flight, State.flight, hp, hs]
  have hsent : (t.sent i).flight = (s.sent i).flight := by
    unfold State.sent
    rw [hp]
    split
    · exact hflight
    · rw [State.flight, State.flight, State.post, State.post, hp, hs]
  simp only [State.older, State.sourceOf, hflight, hsent, hc]

/-- What the end of a descent is without the standby descent. -/
theorem descentEnded_withDescent {l : Load} {a : After} {s : State} (hr : s.running = true) (ho : s.older (.descentEnded l) = [])
    (h : (s.load l).state = .descending a) : exec (.descentEnded l) s = .next (continueDescent l
      ((grantPass (descentSettled l a ((s.without (.descentEnded l)).withDescent .inactive))).withDescent s.descent)) := by
  refine takeInOrder_alone hr rfl ho ((takeDescentEnded_of_descending (s := s.without _) h).trans (congrArg (continueDescent l) ?_))
  rw [← grantPass_withDescent, ← descentSettled_withDescent]
  rfl

/-- Settles O30: each phase goes on from one state. -/
theorem standbyDescentGoesOn : Obligations.StandbyDescentGoesOn := by
  unfold Obligations.StandbyDescentGoesOn
  rintro l s hr ho ⟨a, hdesc⟩
  set v := grantPass (descentSettled l a ((s.without (.descentEnded l)).withDescent .inactive)) with hv
  have hinactive : v.withDescent .inactive = v := by
    rw [hv, descentSettled_withDescent, grantPass_withDescent]
    rfl
  have ho' : (s.withDescent .inactive).older (.descentEnded l) = [] :=
    (State.older_congr (s := s) (t := s.withDescent .inactive) rfl rfl rfl _).trans ho
  have hspacing : v.config.spacing = s.config.spacing := by
    obtain ⟨_, _, _, _, _, hpass⟩ := grantPass_changes (descentSettled l a ((s.without (.descentEnded l)).withDescent .inactive))
    have hsettled := descentSettled_eq l a ((s.without (.descentEnded l)).withDescent .inactive)
    dsimp only at hsettled
    rw [hv, hpass, hsettled, settleLoad_frame]
    rfl
  refine ⟨v, (descentEnded_withDescent (l := l) (a := a) (s := s.withDescent .inactive) hr ho' hdesc).trans ?_, ?_⟩
  · exact congrArg Host.Outcome.next hinactive
  · rw [descentEnded_withDescent hr ho hdesc, ← hv]
    refine congrArg Host.Outcome.next ?_
    cases hd : s.descent with
    | inactive => exact hinactive
    | seeking => rfl
    | spacing n => rfl
    | lowering current =>
      refine (show continueDescent l (v.withDescent (.lowering current)) = if current = l then
        (if v.config.spacing = 0 then select (v.withDescent (.lowering current))
          else v.withDescent (.spacing v.config.spacing.toNat)) else v.withDescent (.lowering current) from rfl).trans ?_
      rw [hspacing, select_withDescent, ← select_withDescent .seeking]
      rfl

end Sys2Proof.Machine
end

section
/-! Trips, faults and the ceiling: what a trip leaves, and whom shedding and the standby descent choose (R78, R82 to R84, R101 to
R107, R117). -/

namespace Sys2Proof.Machine

/-! ## Trips -/

theorem LoadRun.drained_drained (r : LoadRun) : r.drained.drained = r.drained := by
  obtain ⟨st, _, _, _⟩ := r
  cases st <;> rfl

theorem tripDescendant_eq : tripDescendant = onRecord LoadRun.drained fun x _ => [.tripOrder x] := by
  funext s x
  unfold tripDescendant onRecord LoadRun.drained
  dsimp only
  have hset : s.loads.set x (s.load x) = s.loads := Vector.set_getElem_self _
  cases hs : (s.load x).state with
  | rising | up | draining => rfl
  | _ => simp [hset, State.post]

/-- An operation that changes nothing the second time, on loads that may stand twice. -/
theorem foldl_onRecord_load_of_idem {g : LoadRun → LoadRun} (hg : ∀ r, g (g r) = g r) (p : Load → LoadRun → List Instr)
    (ls : List Load) (s : State) (y : Load) :
    (ls.foldl (onRecord g p) s).load y = if y ∈ ls then g (s.load y) else s.load y := by
  induction ls generalizing s with
  | nil => rfl
  | cons x ls ih =>
    have hstep : (onRecord g p s x).load y = if y = x then g (s.load x) else s.load y := State.load_setLoad s x y _
    rw [List.foldl_cons, ih, hstep]
    by_cases hy : y = x
    · subst hy
      simp [hg]
    · simp [hy]

theorem foldl_onRecord_posted_const (g : LoadRun → LoadRun) (f : Load → Instr) (ls : List Load) (s : State) :
    (ls.foldl (onRecord g fun x _ => [f x]) s).posted = s.posted ++ ls.map f := by
  induction ls generalizing s with
  | nil => simp
  | cons x ls ih =>
    rw [List.foldl_cons, ih, List.map_cons]
    exact List.append_assoc _ _ _

section
variable (l : Load) (a : After) (s : State)

theorem trip_eq : trip l a s = (s.holdingDescendants l).foldl (onRecord LoadRun.drained fun x _ => [.tripOrder x])
    ((enterDescending l a s).post (.tripOrder l)) := by rw [trip, tripDescendant_eq]

theorem trip_frame : trip l a s = { s with loads := (trip l a s).loads, posted := (trip l a s).posted } := by
  rw [trip_eq]
  exact foldl_onRecord_frame _ _ _ _

theorem trip_posted : (trip l a s).posted =
    s.posted ++ Instr.tripOrder l :: ((s.holders.map (·.load)).filter fun x => s.descendantOf x l).map Instr.tripOrder := by
  rw [trip_eq, foldl_onRecord_posted_const]
  exact List.append_assoc _ [Instr.tripOrder l] _

theorem trip_load (x : Load) : (trip l a s).load x =
    if x ∈ s.holdingDescendants l then
      (if x = l then { s.load l with state := .descending a, stable := .stopped } else s.load x).drained
    else if x = l then { s.load l with state := .descending a, stable := .stopped } else s.load x := by
  have hstep : ((enterDescending l a s).post (.tripOrder l)).load x =
      if x = l then { s.load l with state := .descending a, stable := .stopped } else s.load x := State.load_setLoad s l x _
  rw [trip_eq, foldl_onRecord_load_of_idem LoadRun.drained_drained, hstep]

/-- The load that is tripped, which is no descendant of its own (R78). -/
theorem trip_load_self (h : s.descendantOf l l = false) :
    (trip l a s).load l = { s.load l with state := .descending a, stable := .stopped } := by
  rw [trip_load, if_pos rfl, if_neg]
  rw [State.mem_holdingDescendants, h]
  exact fun h => nomatch h.2

/-- A descendant of the load that is tripped (R78). -/
theorem trip_load_of_ne {x : Load} (h : x ≠ l) : (trip l a s).load x =
    if s.holds x = true ∧ s.descendantOf x l = true then
      match (s.load x).state with
      | .rising | .up => { s.load x with state := .descending .requeue, stable := .stopped }
      | .draining => { s.load x with state := .descending .idle, stable := .stopped }
      | _ => s.load x
    else s.load x := by
  rw [trip_load, if_neg h]
  refine if_congr State.mem_holdingDescendants ?_ rfl
  unfold LoadRun.drained
  cases (s.load x).state <;> rfl

end

/-! ## Faults -/

section
variable {c : Chan} {s : State}

theorem takeFaultReport_of_holding (h : (s.load (s.config.servedLoad c)).state.holding = true) : takeFaultReport c s =
    trip (s.config.servedLoad c)
      (if (s.load (s.config.servedLoad c)).state = .descending .idle then .idle else .retry) s := by
  have hafter : faultAfter (s.load (s.config.servedLoad c)).state =
      some (if (s.load (s.config.servedLoad c)).state = .descending .idle then .idle else .retry) := by
    cases hs : (s.load (s.config.servedLoad c)).state with
    | descending a => cases a <;> rfl
    | rising | up | draining => rfl
    | idle | queued | cooling | locked | absorbed | void => rw [hs] at h; cases h
  simp only [takeFaultReport, hafter]

theorem takeFaultReport_of_not_holding (h : (s.load (s.config.servedLoad c)).state.holding = false) :
    takeFaultReport c s = s := by
  have hafter : faultAfter (s.load (s.config.servedLoad c)).state = none := by
    cases hs : (s.load (s.config.servedLoad c)).state with
    | descending a => rw [hs] at h; cases h
    | rising | up | draining => rw [hs] at h; cases h
    | idle | queued | cooling | locked | absorbed | void => rfl
  simp only [takeFaultReport, hafter]

end

/-- Settles O25: the load, its descendants and the orders. -/
theorem faultReportTripsTheLoad : Obligations.FaultReportTripsTheLoad := by
  unfold Obligations.FaultReportTripsTheLoad
  intro c cause s hr ho
  dsimp only
  refine ⟨fun hholding hself => ?_, fun hnot => ?_⟩
  · refine ⟨_, takeInOrder_alone hr rfl ho (takeFaultReport_of_holding (s := s.without _) hholding),
      trip_load_self _ _ _ hself, fun x hx => ?_, trip_posted _ _ _, trip_frame _ _ _⟩
    exact trip_load_of_ne _ _ _ hx
  · rw [State.consume_eq _ rfl]
    exact takeInOrder_alone hr rfl ho (takeFaultReport_of_not_holding (s := s.without _) hnot)

/-! ## The least important, youngest load -/

/-- The choice among some loads: none less important, and none behind it equally unimportant (R103, R117). -/
theorem lowestYoungest_splits {p : Load → Fin 8} {ls : List Load} {l : Load} (h : lowestYoungest p ls = some l) :
    ∃ ahead behind, ls = ahead ++ l :: behind ∧ (∀ m ∈ ahead, p l ≤ p m) ∧ ∀ m ∈ behind, p l < p m := by
  induction ls generalizing l with
  | nil => simp [lowestYoungest] at h
  | cons x ls ih =>
    unfold lowestYoungest at h
    split at h
    next hnone =>
      cases h
      rw [lowestYoungest_eq_none hnone]
      exact ⟨[], [], rfl, by simp, by simp⟩
    next m hm =>
      split at h
      next hlt =>
        cases h
        exact ⟨[], ls, rfl, by simp, fun y hy => lt_of_lt_of_le hlt (lowestYoungest_least hm hy)⟩
      next hnlt =>
        cases h
        obtain ⟨ahead, behind, rfl, hahead, hbehind⟩ := ih hm
        refine ⟨x :: ahead, behind, rfl, ?_, hbehind⟩
        rintro y (_ | ⟨_, hy⟩)
        · exact not_lt.mp hnlt
        · exact hahead y hy

/-- A choice among the holders with some property (R103, R117). -/
theorem State.goesBefore_of_lowest {s : State} (hnodup : (s.holders.map (·.load)).Nodup) {q : Load → Bool} {l : Load}
    (h : lowestYoungest (fun l => (s.loadConfig l).priority) ((s.holders.map (·.load)).filter q) = some l) {y : Load}
    (hy : y ∈ s.holders.map (·.load)) (hq : q y = true) : s.goesBefore l y := by
  obtain ⟨ahead, behind, hsplit, hahead, hbehind⟩ := lowestYoungest_splits h
  obtain ⟨as, bs, hlist, has, hbs⟩ := List.filter_eq_append_iff.mp hsplit
  obtain ⟨cs, ds, rfl, hcs, -, hds⟩ := List.filter_eq_cons_iff.mp hbs
  have hplace : s.holders.map (·.load) = (as ++ cs) ++ l :: ds := by rw [hlist, List.append_assoc]
  rw [hplace] at hnodup hy
  have hl : l ∉ as ++ cs := fun hmem => (List.nodup_append.mp hnodup).2.2 l hmem l (by simp) rfl
  have hplace_l : s.place l = (as ++ cs).length := by
    rw [State.place, hplace, List.idxOf_append, if_neg hl, List.idxOf_cons_self, Nat.zero_add]
  rcases List.mem_append.mp hy with hy | hy
  · have hy_as : y ∈ as := (List.mem_append.mp hy).resolve_right fun hc => hcs y hc hq
    have hle := hahead y (has ▸ List.mem_filter.mpr ⟨hy_as, hq⟩)
    rcases lt_or_eq_of_le hle with hlt | heq
    · exact .inl hlt
    · refine .inr ⟨heq, ?_⟩
      rw [hplace_l, State.place, hplace, List.idxOf_append, if_pos hy]
      exact List.idxOf_le_length
  · rcases List.mem_cons.mp hy with rfl | hy
    · exact .inr ⟨rfl, le_rfl⟩
    · exact .inl (hbehind y (hds ▸ List.mem_filter.mpr ⟨hy, hq⟩))

/-! ## Shedding -/

theorem shed_eq (v : Load) (s : State) : shed v s = trip v (shedAfter s v) { s with fifo := s.fifoAfter [.shed v] } := by
  rw [shed, handOver_eq]

theorem trip_holding {l : Load} (a : After) {s : State} (h : (s.load l).state.holding = true) (x : Load) :
    ((trip l a s).load x).state.holding = (s.load x).state.holding := by
  have hdrained (r : LoadRun) : r.drained.state.holding = r.state.holding := by
    obtain ⟨st, _, _, _⟩ := r
    cases st <;> rfl
  have hself : (if x = l then { s.load l with state := .descending a, stable := .stopped } else s.load x).state.holding =
      (s.load x).state.holding := by
    split
    next hx => rw [hx, h]; rfl
    next => rfl
  rw [trip_load]
  split
  · rw [hdrained, hself]
  · exact hself

/-- A shed moves loads among the states that hold (R4, R104). -/
theorem shed_holdersSound {v : Load} {s : State} (h : (s.load v).state.standing = true) (hs : s.holdersSound) :
    (shed v s).holdersSound := by
  obtain ⟨hnodup, hmem, hamount⟩ := hs
  have hframe := trip_frame v (shedAfter s v) { s with fifo := s.fifoAfter [.shed v] }
  have hholders : (shed v s).holders = s.holders := by rw [shed_eq, hframe]
  rw [State.holdersSound, hholders]
  refine ⟨hnodup, fun x => ?_, hamount⟩
  rw [hmem, shed_eq, trip_holding (s := { s with fifo := s.fifoAfter [.shed v] }) _ (LoadState.holding_of_standing h)]
  rfl

theorem State.standingHolders_loads (s : State) :
    s.standingHolders.map (·.load) = (s.holders.map (·.load)).filter fun l => (s.load l).state.standing := by
  rw [State.standingHolders, List.filter_map]
  rfl

/-- The victim goes before every load that stands (R103). -/
theorem State.goesBefore_of_victim {s : State} (hs : s.holdersSound) {v : Load} (h : s.victim = some v) {y : Load}
    (hy : (s.load y).state.standing = true) : s.goesBefore v y := by
  obtain ⟨hnodup, hmem, -⟩ := hs
  rw [State.victim, State.standingHolders_loads] at h
  exact State.goesBefore_of_lowest hnodup h ((hmem y).mpr (LoadState.holding_of_standing hy)) hy

/-- The loads that shedding takes, one after another, each the victim of its turn (R103). -/
theorem shedDown_victims (fuel : Nat) {s : State} (hs : s.holdersSound) :
    ∃ victims : List Load, shedDown fuel s = victims.foldl (fun y v => shed v y) s
      ∧ ∀ (ahead behind : List Load) (v : Load), victims = ahead ++ v :: behind →
        let x := ahead.foldl (fun y v => shed v y) s
        s.ceiling < x.standingSum ∧ x.holdersSound ∧ x.victim = some v := by
  induction fuel generalizing s with
  | zero => exact ⟨[], rfl, fun ahead behind v h => by simp at h⟩
  | succ fuel ih =>
    unfold shedDown
    split
    next => exact ⟨[], rfl, fun ahead behind v h => by simp at h⟩
    next hover =>
      split
      next => exact ⟨[], rfl, fun ahead behind v h => by simp at h⟩
      next v hv =>
        obtain ⟨victims, heq, hturns⟩ := ih (shed_holdersSound (standing_of_victim hv) hs)
        have hceiling : (shed v s).ceiling = s.ceiling := by
          obtain ⟨_, _, _, h⟩ := shed_changes v s
          rw [h]
        refine ⟨v :: victims, heq, fun ahead behind w h => ?_⟩
        cases ahead with
        | nil =>
          obtain ⟨rfl, -⟩ := List.cons.inj h
          exact ⟨not_le.mp hover, hs, hv⟩
        | cons x ahead =>
          obtain ⟨rfl, hrest⟩ := List.cons.inj h
          rw [← hceiling]
          exact hturns ahead behind w hrest

/-! ## The ceiling -/

section
variable {s : State}

theorem recomputeCeiling_of_eq (h : s.ceilingNow = s.ceiling) : recomputeCeiling s = s := by
  unfold recomputeCeiling
  dsimp only
  rw [if_pos h]

theorem recomputeCeiling_of_gt (h : s.ceiling < s.ceilingNow) : recomputeCeiling s =
    grantPass (noteMode s.mode { s with ceiling := s.ceilingNow }) := by
  unfold recomputeCeiling
  dsimp only
  rw [if_neg h.ne', if_neg h.le.not_gt]

theorem recomputeCeiling_of_lt (h : s.ceilingNow < s.ceiling) : recomputeCeiling s =
    noteMode s.mode (shedDown 12 { s with ceiling := s.ceilingNow }) := by
  unfold recomputeCeiling
  dsimp only
  rw [if_neg h.ne, if_pos h]

end

/-- Settles O26: the three outcomes of a recomputation, and one shed. -/
theorem ceilingIsRecomputed : Obligations.CeilingIsRecomputed := by
  unfold Obligations.CeilingIsRecomputed
  intro b s
  dsimp only
  refine ⟨fun hr hidle => ?_, fun hr hne hdue => ?_, fun hc hfull hreduced => ?_, ⟨fun h => ?_, fun h => ?_, fun h hs => ?_⟩,
    fun v hv hself => ⟨?_, fun x hx => ?_, ?_, ?_, ?_⟩⟩
  · rw [State.consume_eq _ rfl]
    refine takeEvent_alone hr rfl (if_neg fun ht => ?_)
    obtain ⟨hne, hdue⟩ := SlowLine.takes_iff.mp ht
    exact hidle.elim hne fun h => h hdue
  · exact takeEvent_alone hr rfl (if_pos (SlowLine.takes_iff.mpr ⟨hne, hdue⟩))
  · refine (immediate_of_takesCommands hc).trans ?_
    have hset : setBudget (s.taken 0x10) = _ := if_neg (not_or.mpr ⟨not_lt.mpr hfull, not_lt.mpr hreduced⟩)
    rw [hset]
    rfl
  · exact recomputeCeiling_of_eq h
  · rw [recomputeCeiling_of_gt h, noteMode_eq]
    rfl
  · obtain ⟨victims, heq, hturns⟩ := shedDown_victims 12 (s := { s with ceiling := s.ceilingNow }) hs
    refine ⟨victims, shedDown 12 { s with ceiling := s.ceilingNow }, heq, ?_, ?_, fun ahead behind v hsplit => ?_⟩
    · rw [recomputeCeiling_of_lt h, noteMode_eq]
    · have hfits := shedDown_standingFits (standingLoads_card_le { s with ceiling := s.ceilingNow })
      have hceiling : (shedDown 12 { s with ceiling := s.ceilingNow }).ceiling = s.ceilingNow := by
        obtain ⟨_, _, _, h⟩ := shedDown_changes 12 { s with ceiling := s.ceilingNow }
        rw [h]
      rw [State.standingFits, hceiling] at hfits
      exact hfits
    · obtain ⟨hover, hsound, hvictim⟩ := hturns ahead behind v hsplit
      exact ⟨hover, standing_of_victim hvictim, fun y hy => State.goesBefore_of_victim hsound hvictim hy⟩
  · rw [shed_eq]
    exact trip_load_self (s := { s with fifo := s.fifoAfter [.shed v] }) _ _ hself
  · rw [shed_eq]
    exact trip_load_of_ne _ _ _ hx
  · rw [shed_eq, trip_frame]
  · rw [shed_eq]
    exact trip_posted _ _ _
  · rw [shed_eq, trip_frame]

end Sys2Proof.Machine
end

section
/-! Standby, wake and HALT at the arbiter (R113 to R128, R139, R152). -/

namespace Sys2Proof.Machine

/-! ## The standby event and the selection -/

section
variable {s : State}

theorem takeStandby_of_not_due (h : s.stby.filtered = true ∨ s.stby.due.head? ≠ some true) : takeStandby s = s := by
  have hnot : s.stby.takes true = false := Bool.eq_false_iff.mpr fun ht =>
    have ⟨hne, hdue⟩ := SlowLine.takes_iff.mp ht
    h.elim hne fun h => h hdue
  simp only [takeStandby, hnot, Bool.not_false, if_true]

theorem takeStandby_of_due (h : s.stby.filtered = false) (hdue : s.stby.due.head? = some true) : takeStandby s =
    let u := setStby true s
    let v : State := { u with fifo := s.fifoAfter (modeNotice s.mode u.mode) }
    if s.halted then v else select v := by
  have htakes : s.stby.takes true = true := SlowLine.takes_iff.mpr ⟨Bool.eq_false_iff.mp h, hdue⟩
  simp only [takeStandby, htakes, Bool.not_true, Bool.false_eq_true, if_false, noteMode_eq]
  rfl

theorem State.mem_standbyCandidates {l : Load} : l ∈ s.standbyCandidates ↔ s.lowerable l := by
  simp only [State.standbyCandidates, State.lowerable, State.holds, List.mem_filter, List.mem_map, Bool.and_eq_true,
    Bool.or_eq_true, beq_iff_eq, Bool.not_eq_true', List.any_eq_true, State.holdingDescendants_isEmpty, and_assoc]

theorem select_of_none (h : ∀ l, ¬s.lowerable l) : select s = { s with descent := .seeking } := by
  have hnil : s.standbyCandidates = [] := List.eq_nil_iff_forall_not_mem.mpr fun l hl => h l (State.mem_standbyCandidates.mp hl)
  simp only [select, hnil, lowestYoungest]

/-- A selection takes the candidate that goes before every other (R117, R118). -/
theorem select_of_lowerable (hs : s.holdersSound) {x : Load} (h : s.lowerable x) :
    ∃ l, s.lowerable l ∧ select s = lowerLoad l s ∧ ∀ y, s.lowerable y → s.goesBefore l y := by
  cases hchoice : lowestYoungest (fun l => (s.loadConfig l).priority) s.standbyCandidates with
  | none => exact absurd (State.mem_standbyCandidates.mpr h) (lowestYoungest_eq_none hchoice ▸ List.not_mem_nil)
  | some l =>
    refine ⟨l, State.mem_standbyCandidates.mp (lowestYoungest_mem hchoice), by simp only [select, hchoice], fun y hy => ?_⟩
    obtain ⟨hnodup, -, -⟩ := hs
    obtain ⟨hmem, hq⟩ := List.mem_filter.mp (State.mem_standbyCandidates.mpr hy)
    exact State.goesBefore_of_lowest hnodup hchoice hmem hq

theorem takeSpacingExpiry_of_spacing {n : Nat} (h : s.descent = .spacing n) : takeSpacingExpiry s = select s := by
  simp only [takeSpacingExpiry, h]

theorem takeSpacingExpiry_of_other (h : ∀ n, s.descent ≠ .spacing n) : takeSpacingExpiry s = s := by
  unfold takeSpacingExpiry
  split
  next n hd => exact absurd hd (h n)
  all_goals rfl

end

/-- Settles O28: a due level, and one that the filter has discarded. -/
theorem standbyEventStartsTheDescent : Obligations.StandbyEventStartsTheDescent := by
  unfold Obligations.StandbyEventStartsTheDescent
  refine fun s hr => ⟨fun h => ?_, fun h hdue => ?_⟩
  · rw [State.consume_eq _ rfl]
    exact takeEvent_alone hr rfl (takeStandby_of_not_due (s := s.without _) h)
  · exact takeEvent_alone hr rfl (takeStandby_of_due (s := s.without _) h hdue)

/-- Settles O29: the selection with a candidate, without one, and in another phase. -/
theorem spacingExpirySelects : Obligations.SpacingExpirySelects := by
  unfold Obligations.SpacingExpirySelects
  refine fun s hr hs => ⟨fun h => ?_, fun n h => ⟨fun hnone => ?_, fun x hx => ?_⟩⟩
  · rw [State.consume_eq _ rfl]
    exact takeEvent_alone hr rfl (takeSpacingExpiry_of_other (s := s.without _) h)
  · exact takeEvent_alone hr rfl ((takeSpacingExpiry_of_spacing (s := s.without _) h).trans
      (select_of_none (s := s.without _) hnone))
  · obtain ⟨l, hl, hselect, hbefore⟩ := select_of_lowerable (s := s.without .spacingTimerExpiry) hs hx
    exact ⟨l, hl, hbefore x hx, takeEvent_alone hr rfl ((takeSpacingExpiry_of_spacing (s := s.without _) h).trans hselect)⟩

/-! ## Judgements -/

/-- The state an accepted request leads to (R13, R14). -/
def LoadState.requested : LoadState → LoadState
  | .idle => .queued
  | .draining => .up
  | _ => .descending .requeue

/-- An accepted request, less its pass (R13, R14). -/
def accepted (o : Origin) (l : Load) (s : State) : State :=
  { s with
    loads := s.loads.set l { s.load l with state := (s.load l).state.requested }
    queue := if (s.load l).state = .idle then
        insertEntry { load := l, priority := (s.loadConfig l).priority, origin := o, overtaken := 0 } s.queue
      else s.queue
    posted := s.posted ++ if (s.load l).state = .draining then [.cancelDrain l] else [] }

theorem Image.allEnabled_eq_false_iff {img : Image} {l : Load} :
    img.allEnabled l = false ↔ ∃ c ∈ img.channelsOf l, (img.channels[c]).enabled = false := by
  rw [Bool.eq_false_iff, Ne, Image.allEnabled_iff]
  simp

/-- Every judgement gives the verdict; only an accepted request changes anything (R12 to R14). -/
theorem judge_eq (o : Origin) (l : Load) (s : State) :
    judge o l s = (s.verdict l, if s.verdict l = .accepted then accepted o l s else s) := by
  unfold judge State.verdict accepted
  cases hh : s.halted with
  | true => rfl
  | false =>
    simp only [Bool.false_eq_true, if_false]
    cases hs : (s.load l).state with
    | idle =>
      have hdisabled : (!s.config.allEnabled l) = true ↔ ∃ c ∈ s.config.channelsOf l, (s.chanConfig c).enabled = false := by
        rw [Bool.not_eq_true']
        exact Image.allEnabled_eq_false_iff
      by_cases hd : ∃ c ∈ s.config.channelsOf l, (s.chanConfig c).enabled = false
      · simp only [if_pos hd, if_pos (hdisabled.mpr hd), reduceCtorEq, if_false]
      · simp only [if_neg hd, if_neg (mt hdisabled.mp hd)]
        by_cases hc : s.config.full < s.config.claimOf l
        · simp only [if_pos hc, reduceCtorEq, if_false]
        · simp [if_neg hc, enqueue_eq, LoadState.requested, hh]
    | draining => simp [State.setLoad, State.post, LoadState.requested, hh]
    | descending a => cases a <;> simp [State.setLoad, LoadState.requested, hh]
    | queued | rising | up | cooling | locked | absorbed | void => rfl

/-- A verdict rests on the load's state, the configuration and HALTED. -/
theorem State.verdict_congr {s t : State} {l : Load} (hl : t.load l = s.load l) (hc : t.config = s.config)
    (hh : t.halted = s.halted) : t.verdict l = s.verdict l := by
  have hchan : t.chanConfig = s.chanConfig := by
    funext c
    rw [State.chanConfig, State.chanConfig, hc]
  simp only [State.verdict, hl, hc, hh, hchan]

theorem accepted_load (o : Origin) (l x : Load) (s : State) : (accepted o l s).load x =
    if x = l then { s.load l with state := (s.load l).state.requested } else s.load x := State.load_setLoad s l x _

/-! ## The wake event -/

/-- What is recorded rests on the FIFO, the configuration and the clock; here the FIFO has notices of before. -/
theorem State.fifoAfter_congr {s t : State} {q : List Record} (hf : t.fifo = q) (hc : t.config = s.config)
    (hclock : t.clock = s.clock) (ns : List Notice) : t.fifoAfter ns = ({ s with fifo := q } : State).fifoAfter ns := by
  simp only [State.fifoAfter, hf, hc, hclock]

/-- One load of the replay (R124). -/
theorem replayLoad_eq (s : State) (l : Load) : replayLoad s l =
    { (if s.verdict l = .accepted then accepted .wake l s else s) with
      fifo := s.fifoAfter (if (s.verdict l).refusedDetail then [.refused l (s.verdict l)] else []) } := by
  rw [replayLoad, judge_eq, noteRefusal_eq]
  dsimp only
  split <;> rfl

/-- Everything but the loads, the queue, what is in flight and the notices. -/
def State.sameButRequests (s t : State) : Prop :=
  t = { s with loads := t.loads, queue := t.queue, posted := t.posted, fifo := t.fifo }

theorem State.sameButRequests.trans {s t u : State} (h : s.sameButRequests t) (hu : t.sameButRequests u) : s.sameButRequests u := by
  unfold State.sameButRequests at *
  rw [hu, h]

theorem replayLoad_sameButRequests (s : State) (l : Load) : s.sameButRequests (replayLoad s l) := by
  rw [replayLoad_eq]
  split <;> rfl

section
variable (s : State) (l : Load)

theorem replayLoad_load (x : Load) : (replayLoad s l).load x =
    if x = l ∧ s.verdict l = .accepted then { s.load l with state := (s.load l).state.requested } else s.load x := by
  rw [replayLoad_eq]
  by_cases hv : s.verdict l = .accepted
  · rw [if_pos hv]
    refine (accepted_load .wake l x s).trans (if_congr ?_ rfl rfl)
    simp [hv]
  · rw [if_neg hv, if_neg (show ¬(x = l ∧ s.verdict l = .accepted) from fun h => hv h.2)]
    rfl

theorem replayLoad_verdict {x : Load} (h : x ≠ l) : (replayLoad s l).verdict x = s.verdict x := by
  have hsame := replayLoad_sameButRequests s l
  exact State.verdict_congr ((replayLoad_load s l x).trans (if_neg fun hx => h hx.1)) (by rw [hsame]) (by rw [hsame])

theorem replayLoad_queue : (replayLoad s l).queue =
    if (s.load l).state = .idle ∧ s.verdict l = .accepted then
      insertEntry { load := l, priority := (s.loadConfig l).priority, origin := .wake, overtaken := 0 } s.queue
    else s.queue := by
  rw [replayLoad_eq]
  by_cases hv : s.verdict l = .accepted
  · simp only [hv, and_true]
    rfl
  · simp only [hv, and_false, if_false]

theorem replayLoad_posted (hh : s.halted = false) : (replayLoad s l).posted =
    s.posted ++ if (s.load l).state = .draining then [.cancelDrain l] else [] := by
  rw [replayLoad_eq]
  by_cases hd : (s.load l).state = .draining
  · have hv : s.verdict l = .accepted := by simp [State.verdict, hh, hd]
    rw [if_pos hv]
    rfl
  · rw [if_neg hd, List.append_nil]
    split
    · simp [accepted, hd]
    · rfl

theorem replayLoad_fifo : (replayLoad s l).fifo =
    s.fifoAfter (if (s.verdict l).refusedDetail then [.refused l (s.verdict l)] else []) := by
  rw [replayLoad_eq]

end

/-- The replay of some loads: each verdict is the one it would get alone (R124). -/
structure Replayed (s t : State) (ls : List Load) : Prop where
  frame : s.sameButRequests t
  load : ∀ x, t.load x =
    if x ∈ ls ∧ s.verdict x = .accepted then { s.load x with state := (s.load x).state.requested } else s.load x
  queue : t.queue = (ls.filter fun x => (s.load x).state = .idle ∧ s.verdict x = .accepted).foldl
    (fun q x => insertEntry { load := x, priority := (s.loadConfig x).priority, origin := .wake, overtaken := 0 } q) s.queue
  posted : t.posted = s.posted ++ (ls.filter fun x => (s.load x).state = .draining).map Instr.cancelDrain
  fifo : t.fifo = s.fifoAfter ((ls.filter fun x => (s.verdict x).refusedDetail).map fun x => Notice.refused x (s.verdict x))

theorem replayed_foldl {ls : List Load} (hls : ls.Nodup) {s : State} (hh : s.halted = false) :
    Replayed s (ls.foldl replayLoad s) ls := by
  induction ls generalizing s with
  | nil => exact ⟨rfl, fun x => (if_neg (by simp)).symm, rfl, (List.append_nil _).symm, rfl⟩
  | cons l ls ih =>
    obtain ⟨hl, hls⟩ := List.nodup_cons.mp hls
    have hsame := replayLoad_sameButRequests s l
    have hhalted : (replayLoad s l).halted = false := by rw [hsame]; exact hh
    have hconfig : (replayLoad s l).loadConfig = s.loadConfig := by rw [hsame]; rfl
    have hverdict : ∀ x ∈ ls, (replayLoad s l).verdict x = s.verdict x := fun x hx =>
      replayLoad_verdict s l (by rintro rfl; exact hl hx)
    have hload : ∀ x ∈ ls, (replayLoad s l).load x = s.load x := fun x hx =>
      (replayLoad_load s l x).trans (if_neg (by rintro ⟨rfl, -⟩; exact hl hx))
    have hfilter (q : Load → LoadState → ResultCode → Bool) :
        (ls.filter fun x => q x ((replayLoad s l).load x).state ((replayLoad s l).verdict x)) =
          ls.filter fun x => q x (s.load x).state (s.verdict x) :=
      List.filter_congr fun x hx => by rw [hload x hx, hverdict x hx]
    have hrefused : (ls.filter fun x => (s.verdict x).refusedDetail).map (fun x => Notice.refused x ((replayLoad s l).verdict x)) =
        (ls.filter fun x => (s.verdict x).refusedDetail).map fun x => Notice.refused x (s.verdict x) :=
      List.map_congr_left fun x hx => by rw [hverdict x (List.mem_of_mem_filter hx)]
    obtain ⟨frame, load, queue, posted, fifo⟩ := ih hls hhalted
    refine ⟨hsame.trans frame, fun x => ?_, ?_, ?_, ?_⟩
    · rw [List.foldl_cons, load]
      by_cases hx : x ∈ ls
      · simp [hx, hverdict x hx, hload x hx]
      · rw [if_neg fun h => hx h.1, replayLoad_load]
        by_cases hxl : x = l
        · subst hxl
          simp
        · simp [hx, hxl]
    · rw [List.foldl_cons, queue, replayLoad_queue, hconfig, hfilter fun x st v => decide (st = .idle ∧ v = .accepted),
        List.filter_cons]
      simp only [decide_eq_true_eq]
      split <;> rfl
    · rw [List.foldl_cons, posted, replayLoad_posted s l hh, hfilter fun x st v => decide (st = .draining), List.filter_cons]
      simp only [decide_eq_true_eq]
      split <;> simp
    · rw [List.foldl_cons, fifo, hfilter fun x st v => v.refusedDetail, hrefused, List.filter_cons,
        State.fifoAfter_congr (s := s) (replayLoad_fifo s l) (by rw [hsame]) (by rw [hsame]), ← fifoAfter_append]
      split <;> rfl

section
variable {s : State}

theorem takeWake_of_not_due (h : s.stby.filtered = false ∨ s.stby.due.head? ≠ some false) : takeWake s = s := by
  have hnot : s.stby.takes false = false := Bool.eq_false_iff.mpr fun ht =>
    have ⟨hne, hdue⟩ := SlowLine.takes_iff.mp ht
    h.elim hne fun h => h hdue
  simp only [takeWake, hnot, Bool.not_false, if_true]

/-- The state in which the wake event replays the resume list (R123). -/
def woken (s : State) : State :=
  { setStby false s with fifo := s.fifoAfter (modeNotice s.mode (setStby false s).mode), descent := .inactive }

theorem takeWake_of_due (h : s.stby.filtered = true) (hdue : s.stby.due.head? = some false) : takeWake s =
    grantPass { s.resume.reverse.foldl replayLoad (woken s) with resume := [] } := by
  have htakes : s.stby.takes false = true := SlowLine.takes_iff.mpr ⟨by rw [h]; nofun, hdue⟩
  simp only [takeWake, htakes, Bool.not_true, Bool.false_eq_true, if_false, noteMode_eq]
  rfl

end

/-- Settles O31: the replay, and the wake event while HALTED. -/
theorem wakeReplaysTheResumeList : Obligations.WakeReplaysTheResumeList := by
  unfold Obligations.WakeReplaysTheResumeList
  intro s hr
  dsimp only
  refine ⟨fun h => ?_, fun h hdue hh hnil => ?_, fun h hdue hh hnodup => ?_⟩
  · rw [State.consume_eq _ rfl]
    exact takeEvent_alone hr rfl (takeWake_of_not_due (s := s.without _) h)
  · refine takeEvent_alone hr rfl ((takeWake_of_due (s := s.without _) h hdue).trans ?_)
    have hreplay : (s.without .wakeEvent).resume = [] := hnil
    have hmode : modeNotice s.mode (setStby false (s.without .wakeEvent)).mode = [] := by
      have h1 : s.mode = .halted := by simp [State.mode, hh]
      have h2 : (setStby false (s.without .wakeEvent)).mode = .halted := by
        have : (setStby false (s.without .wakeEvent)).halted = true := hh
        simp [State.mode, this]
      rw [h1, h2]
      rfl
    have hpass : grantPass { woken (s.without .wakeEvent) with resume := [] } = { woken (s.without .wakeEvent) with resume := [] } :=
      grantPass_of_stopped (.inl hh)
    have hfifo : (s.without .wakeEvent).fifoAfter (modeNotice s.mode (setStby false (s.without .wakeEvent)).mode) = s.fifo := by
      rw [hmode]
      rfl
    rw [hreplay, List.reverse_nil, List.foldl_nil, hpass, ← hnil]
    exact congrArg (fun q => ({ setStby false (s.without .wakeEvent) with fifo := q, descent := .inactive } : State)) hfifo
  · set x := s.without .wakeEvent with hx
    obtain ⟨frame, load, queue, posted, fifo⟩ := replayed_foldl (List.nodup_reverse.mpr hnodup) (s := woken x) hh
    have hverdict (l : Load) : (woken x).verdict l = s.verdict l := State.verdict_congr rfl rfl rfl
    refine ⟨_, takeEvent_alone hr rfl (takeWake_of_due (s := s.without _) h hdue), fun y => ?_, ?_, posted, ?_, ?_⟩
    · refine (load y).trans (if_congr (by rw [hverdict, List.mem_reverse]) ?_ rfl)
      refine congrArg (fun st => ({ s.load y with state := st } : LoadRun)) ?_
      change (s.load y).state.requested = _
      unfold LoadState.requested
      cases (s.load y).state <;> rfl
    · refine queue.trans ?_
      simp only [hverdict]
      rfl
    · refine fifo.trans ?_
      simp only [hverdict]
      exact (fifoAfter_append s _ _).symm
    · exact (congrArg (fun t : State => ({ t with resume := [] } : State)) frame).trans rfl

end Sys2Proof.Machine
end

section
/-! HALT and RESUME (R125, R126, R128, R139, R152). -/

namespace Sys2Proof.Machine

/-! ## HALT -/

theorem tripPending_eq (r : Option SeqRecord) : tripPending r = (r.map (·.phase) != some .immediate) := by
  cases r with
  | none => rfl
  | some r =>
    rw [tripPending, Option.map_some, bne, bne]
    cases r.phase <;> rfl

/-- A HALT request that ends a run (R126). -/
theorem halt_of_not_halted {s : State} (h : s.halted = false) : halt s = { s with
    loads := Vector.ofFn fun l => (s.load l).halted
    queue := []
    resume := []
    descent := .inactive
    halted := true
    posted := s.posted ++ ((s.holders.map (·.load)).filter (haltTrips s)).map Instr.tripOrder
    fifo := if s.booting then s.fifo else s.fifoAfter [.mode .halted] } := by
  simp only [halt, h, Bool.false_eq_true, if_false, handOver_eq]
  split <;> rfl

/-- Settles O32: a write without HALT, one while HALTED, and one that halts. -/
theorem controlWriteHalts : Obligations.ControlWriteHalts := by
  unfold Obligations.ControlWriteHalts
  intro v s hp
  dsimp only
  have hnie : exec (.nieDieWrite v) s = .next (writeControl v s) := strobe_of_released hp
  have hhalt : exec (.haltRequest v) s = .next (writeControl v s) := strobe_of_released hp
  refine ⟨fun hv => ?_, fun hv hh => ?_, fun hv hh => ?_⟩
  · rw [hnie, writeControl, if_neg (Bool.eq_false_iff.mp hv)]
  · rw [hhalt, writeControl, if_pos hv]
    exact congrArg Host.Outcome.next (if_pos hh)
  · have hbooting : s.booting = true ↔ s.unit = .booting := by
      have hrel : s.released = true := State.released_iff.mpr hp
      rw [State.booting, hrel, Bool.true_and]
      cases s.unit <;> simp [UnitState.isBooting]
    have hwrite : writeControl v s = _ := (if_pos hv).trans (halt_of_not_halted (s := { s with nie := v.getLsbD 0, die := v.getLsbD 1 }) hh)
    rw [hhalt, hwrite]
    refine ⟨_, rfl, fun l => ?_, ?_, ?_, rfl⟩
    · refine (Vector.getElem_ofFn _).trans ?_
      change (s.load l).halted = _
      unfold LoadRun.halted
      cases (s.load l).state <;> rfl
    · have htrips : haltTrips ({ s with nie := v.getLsbD 0, die := v.getLsbD 1 } : State) = fun l =>
          (s.load l).state.standing || s.posted.contains (.grantHandover l) || (s.record l).map (·.phase) != some Phase.immediate := by
        funext l
        rw [← tripPending_eq]
        rfl
      dsimp only
      rw [htrips]
    · exact if_congr hbooting rfl rfl

/-! ## RESUME -/

/-- Re-presentations of several channels, none of which changes what the next one finds (R139). -/
theorem foldl_represent (source : DetectSource) (cs : List Chan) (s : State) :
    cs.foldl (represent source) s = { s with
      posted := s.posted ++ cs.flatMap s.representing
      sources := s.sources ++ (cs.flatMap s.representing).map fun _ => source } := by
  induction cs generalizing s with
  | nil => simp
  | cons c cs ih =>
    have hsame : (represent source s c).representing = s.representing := by
      rw [represent_eq]
      rfl
    rw [List.foldl_cons, ih, hsame, represent_eq]
    simp [List.append_assoc]

theorem State.flatMap_representing (s : State) (cs : List Chan) : cs.flatMap s.representing =
    (cs.filter fun c => s.config.acting c && (s.chan c).present).map fun c => Instr.autoRequest (s.config.servedLoad c) :=
  flatMap_ite_singleton _ _ _

theorem resumeWaits_eq : resumeWaits = fun i source => decide (∃ l : Load, (i = .autoRequest l ∨ i = .autoRelease l)
    ∧ (source = .revert ∨ ∃ c : Chan, source = .change c)) := by
  funext i source
  rw [Bool.eq_iff_iff]
  cases source <;> cases i <;> simp [resumeWaits, fromDetect, detectLoad]

theorem resumeService_of_not_halted {s : State} (h : s.halted = false) : resumeService s = (.state, s) := by
  simp [resumeService, h]

theorem resumeService_of_halted {s : State} (h : s.halted = true) : resumeService s =
    let x := settleFor resumeWaits s
    let t := noteMode x.mode { x with halted := false }
    (.done, allChans.foldl (represent .resume) (grantPass (if t.standbyFacet then select t else t))) := by
  simp only [resumeService, h, if_true]

/-- Settles O33: a RESUME out of the halt fails, one that ends it goes on with the standby descent, the pass and the requests. -/
theorem resumeEndsHalt : Obligations.ResumeEndsHalt := by
  unfold Obligations.ResumeEndsHalt
  refine fun s hc => ⟨fun hh => ?_, fun hh => ?_⟩
  · refine (immediate_of_takesCommands hc).trans ?_
    rw [resumeService_of_not_halted (s := s.taken 0x12) hh]
  · dsimp only
    refine (immediate_of_takesCommands hc).trans ?_
    rw [resumeService_of_halted (s := s.taken 0x12) hh, ← resumeWaits_eq]
    obtain ⟨_, _, _, _, _, _, _, _, _, hx⟩ := settleFor_changes (p := resumeWaits) (s := s.taken 0x12) fun x _ h => by
      rw [resumeWaits_eq] at h
      obtain ⟨_, hi, -⟩ := of_decide_eq_true h
      rcases hi with hi | hi <;> rw [hi] <;> rfl
    have hconfig : (settleFor resumeWaits (s.taken 0x12)).config = s.config := by rw [hx]; rfl
    have hchans : (settleFor resumeWaits (s.taken 0x12)).chans = s.chans := by rw [hx]; rfl
    have hstby : (settleFor resumeWaits (s.taken 0x12)).stby = s.stby := by rw [hx]; rfl
    have hhalted : (settleFor resumeWaits (s.taken 0x12)).halted = true := by rw [hx]; exact hh
    generalize settleFor resumeWaits (s.taken 0x12) = x at hconfig hchans hstby hhalted
    have hmode : x.mode = .halted := by simp [State.mode, hhalted]
    dsimp only
    rw [noteMode_eq, hmode]
    set v : State := { x with
      halted := false, fifo := ({ x with halted := false } : State).fifoAfter (modeNotice .halted ({ x with halted := false } : State).mode) } with hv
    have hfacet : v.standbyFacet = s.stby.filtered := congrArg SlowLine.filtered hstby
    have hselected (b : Bool) : (if b then select v else v).config = s.config ∧ (if b then select v else v).chans = s.chans := by
      obtain ⟨_, _, _, _, hselect⟩ := select_changes v
      cases b with
      | false => exact ⟨hconfig, hchans⟩
      | true =>
        rw [if_pos rfl, hselect]
        exact ⟨hconfig, hchans⟩
    obtain ⟨_, _, _, _, _, hpass⟩ := grantPass_changes (if s.stby.filtered then select v else v)
    have hrep : (grantPass (if s.stby.filtered then select v else v)).representing = s.representing := by
      obtain ⟨h1, h2⟩ := hselected s.stby.filtered
      funext c
      rw [hpass, State.representing, State.chan]
      dsimp only
      rw [h1, h2]
      rfl
    rw [hfacet, foldl_represent, hrep, State.flatMap_representing, List.map_map]
    rfl

end Sys2Proof.Machine
end

section
/-! The grant pass: what it grants, and what it leaves (R28 to R37). -/

namespace Sys2Proof.Machine

/-! ## The entries a scan grants -/

/-- The entries that a scan grants, in queue order (R33). -/
def grantedBy : List Entry → State → List Entry
  | [], _ => []
  | e :: q, s =>
    if !eligible s e then grantedBy q s
    else if s.config.claimOf e.load ≤ s.headroom then e :: grantedBy q (grant e s)
    else if e.overtaken < s.config.overtake then grantedBy q s
    else []

/-- Some grants, one after another (R36). -/
def grantAll (es : List Entry) (s : State) : State := es.foldl (fun s e => grant e s) s

theorem grantedBy_sublist (q : List Entry) (s : State) : (grantedBy q s).Sublist q := by
  induction q generalizing s with
  | nil => exact List.Sublist.refl _
  | cons e q ih =>
    unfold grantedBy
    split_ifs
    · exact (ih s).cons e
    · exact (ih _).cons_cons e
    · exact (ih s).cons e
    · exact List.nil_sublist _

theorem scan_state (q : List Entry) (s : State) : (scan q s).2.2 = grantAll (grantedBy q s) s := by
  induction q generalizing s with
  | nil => rfl
  | cons e q ih =>
    unfold scan grantedBy
    split_ifs
    · exact ih s
    · exact ih (grant e s)
    · exact ih s
    · rfl

theorem scan_any (q : List Entry) (s : State) : (scan q s).2.1 = !(grantedBy q s).isEmpty := by
  induction q generalizing s with
  | nil => rfl
  | cons e q ih =>
    unfold scan grantedBy
    split_ifs
    · exact ih s
    · rfl
    · exact ih s
    · rfl

/-! ## What the grants leave -/

theorem grantAll_frame (es : List Entry) (s : State) : grantAll es s = { s with
    holders := (grantAll es s).holders, loads := (grantAll es s).loads, fifo := (grantAll es s).fifo,
    posted := (grantAll es s).posted } := by
  induction es generalizing s with
  | nil => rfl
  | cons e es ih =>
    have h : grantAll (e :: es) s = grantAll es (grant e s) := rfl
    rw [h, ih, grant_eq]

theorem grantAll_config (es : List Entry) (s : State) : (grantAll es s).config = s.config := by rw [grantAll_frame]

theorem grantAll_ceiling (es : List Entry) (s : State) : (grantAll es s).ceiling = s.ceiling := by rw [grantAll_frame]

theorem grantAll_holders (es : List Entry) (s : State) :
    (grantAll es s).holders = s.holders ++ es.map fun e => Holder.mk e.load (s.config.claimOf e.load) := by
  induction es generalizing s with
  | nil => simp [grantAll]
  | cons e es ih =>
    refine (ih (grant e s)).trans ?_
    rw [grant_eq]
    exact List.append_assoc _ [_] _

theorem grantAll_load (es : List Entry) (s : State) (l : Load) :
    (grantAll es s).load l = if l ∈ es.map (·.load) then { s.load l with state := .rising } else s.load l := by
  induction es generalizing s with
  | nil => rfl
  | cons e es ih =>
    have hstep : (grant e s).load l = if l = e.load then { s.load e.load with state := .rising } else s.load l := by
      rw [grant_eq]
      exact State.load_setLoad s e.load l _
    refine (ih (grant e s)).trans ?_
    rw [hstep, List.map_cons]
    by_cases hl : l = e.load
    · subst hl
      simp
    · simp [hl]

theorem grantAll_fifo (es : List Entry) (s : State) :
    (grantAll es s).fifo = s.fifoAfter (es.map fun e => Notice.granted e.load e.origin) := by
  induction es generalizing s with
  | nil => rfl
  | cons e es ih =>
    refine (ih (grant e s)).trans ?_
    rw [grant_eq]
    exact (fifoAfter_append s [_] _).symm

theorem grantAll_posted (es : List Entry) (s : State) :
    (grantAll es s).posted = s.posted ++ es.map fun e => Instr.grantHandover e.load := by
  induction es generalizing s with
  | nil => simp [grantAll]
  | cons e es ih =>
    refine (ih (grant e s)).trans ?_
    rw [grant_eq]
    exact List.append_assoc _ [_] _

theorem grantAll_committed (es : List Entry) (s : State) :
    (grantAll es s).committed = s.committed + (es.map fun e => s.config.claimOf e.load).sum := by
  rw [State.committed, grantAll_holders, amounts, List.map_append, List.sum_append, List.map_map]
  rfl

/-! ## The pass -/

theorem State.over_eq_false_iff {s : State} : s.over = false ↔ s.committed ≤ s.ceiling := by simp [State.over]

/-- A pass that runs (R31, R33). -/
theorem grantPass_of_started {s : State} (hh : s.halted = false) (ho : s.over = false) :
    grantPass s = { grantAll (grantedBy s.queue s) s with queue := (scan s.queue s).1 } := by
  rw [grantPass, if_neg (by simp [hh, ho]), ← scan_state]

/-- Settles O16: the grants of the scan, in queue order. -/
theorem grantPassGrantsInQueueOrder : Obligations.GrantPassGrantsInQueueOrder := by
  unfold Obligations.GrantPassGrantsInQueueOrder
  refine fun s hr => ⟨fun h => ?_, fun hh ho => ?_⟩
  · rw [State.consume_eq _ rfl]
    exact takeEvent_alone hr rfl (grantPass_of_stopped (s := s.without _) h)
  · set x := s.without .grantPass with hx
    refine ⟨_, grantedBy x.queue x, takeEvent_alone hr rfl (grantPass_of_started (s := s.without _) hh ho),
      grantedBy_sublist x.queue x, grantAll_holders _ x, grantAll_load _ x, grantAll_fifo _ x, grantAll_posted _ x, ?_, ?_⟩
    · have hfits := scan_committed_le x.queue (s := x) (State.over_eq_false_iff.mp ho)
      rw [scan_state] at hfits
      exact hfits.trans_eq (grantAll_ceiling _ x).symm
    · exact congrArg (fun t : State => ({ t with queue := (scan x.queue x).1 } : State)) (grantAll_frame (grantedBy x.queue x) x)

/-- Ineligible entries are left behind (R33). -/
theorem grantedBy_of_ineligible {ahead : List Entry} (rest : List Entry) {s : State} (h : ∀ x ∈ ahead, eligible s x = false) :
    grantedBy (ahead ++ rest) s = grantedBy rest s := by
  induction ahead with
  | nil => rfl
  | cons e ahead ih =>
    have he : eligible s e = false := h e List.mem_cons_self
    rw [List.cons_append, grantedBy, if_pos (by simp [he])]
    exact ih fun x hx => h x (List.mem_cons_of_mem _ hx)

theorem eligible_iff {s : State} {e : Entry} : eligible s e = true ↔ s.admits e := by
  unfold eligible State.admits
  cases (s.loadConfig e.load).parent <;> simp [and_assoc]

/-- Settles O18: the scan passes the ineligible entries and grants the first that fits. -/
theorem grantPassTakesTheFirstThatFits : Obligations.GrantPassTakesTheFirstThatFits := by
  unfold Obligations.GrantPassTakesTheFirstThatFits
  intro s ahead behind e hr hh ho hqueue hahead hparent hfacet hfit
  set x := s.without .grantPass with hx
  have heligible : eligible x e = true := eligible_iff.mpr ⟨hparent, hfacet, hfit.trans (Nat.sub_le _ _)⟩
  have hgranted : grantedBy x.queue x = e :: grantedBy behind (grant e x) := by
    have hq : x.queue = ahead ++ e :: behind := hqueue
    rw [hq, grantedBy_of_ineligible (s := x) _ hahead, grantedBy, if_neg (by simp [heligible]), if_pos (show x.config.claimOf e.load ≤ x.headroom from hfit)]
  have hholders := grantAll_holders (grantedBy x.queue x) x
  rw [hgranted] at hholders
  refine ⟨_, (grantedBy behind (grant e x)).map fun e => Holder.mk e.load (x.config.claimOf e.load),
    takeEvent_alone hr rfl (grantPass_of_started (s := s.without _) hh ho), ?_⟩
  rw [← hx, hgranted]
  exact hholders

/-! ## A surplus pass -/

theorem eligible_of_eligible_grant {e e' : Entry} {s : State} (h : eligible (grant e' s) e = true) : eligible s e = true := by
  rw [eligible_iff] at h ⊢
  obtain ⟨hparent, hfacet, hclaim⟩ := h
  rw [grant_eq] at hfacet hclaim
  refine ⟨hparent.imp (fun h => ?_) (fun ⟨p, hp, hup⟩ => ⟨p, ?_, ?_⟩), hfacet, hclaim⟩
  · rw [grant_eq] at h
    exact h
  · rw [grant_eq] at hp
    exact hp
  · have hload := grantAll_load [e'] s p
    have hup : ((grantAll [e'] s).load p).state = .up := hup
    rw [hload] at hup
    split at hup
    · cases hup
    · exact hup

/-- In a pass eligibility only falls (R28, R36). -/
theorem eligible_of_eligible_grantAll {es : List Entry} {s : State} {e : Entry} (h : eligible (grantAll es s) e = true) :
    eligible s e = true := by
  induction es generalizing s with
  | nil => exact h
  | cons e' es ih => exact eligible_of_eligible_grant (ih (s := grant e' s) h)

theorem headroom_grantAll_le (es : List Entry) (s : State) : (grantAll es s).headroom ≤ s.headroom := by
  rw [State.headroom, State.headroom, grantAll_ceiling, grantAll_committed]
  omega

/-- A scan that grants nothing changes nothing. -/
theorem scan_of_granted_nil {q : List Entry} {s : State} (h : grantedBy q s = []) : scan q s = (q, false, s) := by
  induction q with
  | nil => rfl
  | cons e q ih =>
    unfold grantedBy at h
    unfold scan
    split_ifs at h ⊢
    · rw [ih h]
    · rw [ih h]
      rfl
    · rfl

section
variable {e : Entry} {q : List Entry} {s : State}

theorem grantedBy_cons_of_ineligible (h : eligible s e = false) : grantedBy (e :: q) s = grantedBy q s := by
  rw [grantedBy, if_pos (by simp [h])]

theorem grantedBy_cons_nil (hfit : s.headroom < s.config.claimOf e.load) (h : grantedBy q s = []) : grantedBy (e :: q) s = [] := by
  unfold grantedBy
  split_ifs with _ hle
  · exact h
  · exact absurd hle hfit.not_ge
  · exact h
  · rfl

end

/-- What a scan leaves, another grants nothing of: eligibility and headroom have only fallen (R32). -/
theorem grantedBy_scan (q : List Entry) (s : State) : grantedBy (scan q s).1 (scan q s).2.2 = [] := by
  induction q generalizing s with
  | nil => rfl
  | cons e q ih =>
    have hfalls (h : eligible s e = false) : eligible (scan q s).2.2 e = false := by
      rw [Bool.eq_false_iff] at h ⊢
      rw [scan_state]
      exact fun he => h (eligible_of_eligible_grantAll he)
    have hroom (h : ¬s.config.claimOf e.load ≤ s.headroom) :
        (scan q s).2.2.headroom < (scan q s).2.2.config.claimOf e.load := by
      rw [scan_state, grantAll_config]
      exact (headroom_grantAll_le _ s).trans_lt (not_le.mp h)
    unfold scan
    split_ifs with hin hfit hlimit
    · exact (grantedBy_cons_of_ineligible (hfalls (by simpa using hin))).trans (ih s)
    · exact ih (grant e s)
    · dsimp only
      split
      · exact grantedBy_cons_nil (e := { e with overtaken := e.overtaken + 1 }) (hroom hfit) (ih s)
      · exact grantedBy_cons_nil (hroom hfit) (ih s)
    · exact (grantedBy.eq_def (e :: q) s).trans (by dsimp only; rw [if_neg hin, if_neg hfit, if_neg hlimit])

/-- Two states in which a scan finds the same. -/
structure SameAccount (s t : State) : Prop where
  halted : t.halted = s.halted
  ceiling : t.ceiling = s.ceiling
  holders : t.holders = s.holders
  loads : t.loads = s.loads
  config : t.config = s.config
  facet : t.standbyFacet = s.standbyFacet

theorem SameAccount.grantedBy_nil {q : List Entry} {s t : State} (hsame : SameAccount s t) (h : grantedBy q s = []) :
    grantedBy q t = [] := by
  obtain ⟨-, hceiling, hholders, hloads, hconfig, hfacet⟩ := hsame
  have heligible (e : Entry) : eligible t e = eligible s e := by
    simp only [eligible, State.loadConfig, State.load, hceiling, hloads, hconfig, hfacet]
  have hroom : t.headroom = s.headroom := by simp only [State.headroom, State.committed, hceiling, hholders]
  induction q with
  | nil => rfl
  | cons e q ih =>
    unfold grantedBy at h ⊢
    rw [heligible, hroom, hconfig]
    split_ifs at h ⊢
    · exact ih h
    · exact ih h
    · rfl

/-- Nothing is left to grant. -/
def State.settled (s : State) : Prop := s.halted = true ∨ s.over = true ∨ grantedBy s.queue s = []

theorem State.settled.grantPass_eq {s : State} (h : s.settled) : grantPass s = s := by
  rcases h with h | h | h
  · exact grantPass_of_stopped (.inl h)
  · exact grantPass_of_stopped (.inr h)
  · unfold grantPass
    split
    · rfl
    · rw [scan_of_granted_nil h]

theorem State.settled.congr {s t : State} (h : s.settled) (hsame : SameAccount s t) (hqueue : t.queue = s.queue) : t.settled := by
  rcases h with h | h | h
  · exact .inl (hsame.halted.trans h)
  · refine .inr (.inl ?_)
    rw [State.over, State.committed, hsame.ceiling, hsame.holders]
    exact h
  · refine .inr (.inr ?_)
    rw [hqueue]
    exact hsame.grantedBy_nil h

/-- After a pass nothing is left to grant (R32). -/
theorem grantPass_settled (s : State) : (grantPass s).settled := by
  by_cases hstop : s.halted = true ∨ s.over = true
  · rw [grantPass_of_stopped hstop]
    exact hstop.imp_right .inl
  · obtain ⟨hh, ho⟩ : s.halted = false ∧ s.over = false := by simpa using hstop
    refine .inr (.inr ?_)
    rw [grantPass_of_started hh ho]
    refine SameAccount.grantedBy_nil (s := grantAll (grantedBy s.queue s) s) ⟨rfl, rfl, rfl, rfl, rfl, rfl⟩ ?_
    rw [← scan_state]
    exact grantedBy_scan s.queue s

/-- Settles O19: what the first pass leaves is settled, whatever is in flight. -/
theorem surplusGrantPassChangesNothing : Obligations.SurplusGrantPassChangesNothing := by
  unfold Obligations.SurplusGrantPassChangesNothing
  intro s t hr h
  obtain rfl : t = grantPass (s.without .grantPass) := by
    have hpass : exec .grantPass s = .next (grantPass (s.without .grantPass)) := takeEvent_alone hr rfl rfl
    rw [hpass] at h
    cases h
    rfl
  have hrun : (grantPass (s.without .grantPass)).running = true := (grantPass_served _).running_eq.trans hr
  rw [State.consume_eq _ rfl]
  refine takeEvent_alone hrun rfl (State.settled.grantPass_eq ?_)
  exact (grantPass_settled (s.without .grantPass)).congr ⟨rfl, rfl, rfl, rfl, rfl, rfl⟩ rfl

/-! ## The events that start a pass -/

/-- The outcome of an event is known. -/
theorem next_inj {s t : State} {o : Host.Outcome State Fault Refusal} (h : o = .next t) (k : o = .next s) : t = s := by
  rw [h] at k
  injection k

theorem State.settled.of_pass {s t : State} (h : t = { grantPass s with
    posted := t.posted, sources := t.sources, fifo := t.fifo, result := t.result, cmdDone := t.cmdDone }) : t.settled := by
  refine (grantPass_settled s).congr ⟨?_, ?_, ?_, ?_, ?_, ?_⟩ ?_ <;> rw [h]
  rfl

end Sys2Proof.Machine
end

section
/-! Every event that starts a grant pass leaves nothing to grant (R30, R32). -/

namespace Sys2Proof.Machine

/-- In a part whose standby descent stands still a request that makes an entry, or returns a load to UP, ends in a pass (R30). -/
theorem request_settled {o : Origin} {l : Load} {s : State} (hd : s.descent = .inactive)
    (hs : (s.load l).state ∈ [LoadState.idle, .draining]) (hv : s.verdict l = .accepted) :
    request o l s = (.accepted, grantPass (accepted o l s)) := by
  simp only [List.mem_cons, List.not_mem_nil, or_false] at hs
  unfold request
  rw [judge_eq, hv, if_pos rfl]
  rcases hs with hs | hs
  · rw [hs]
  · rw [hs]
    obtain ⟨_, _, _, _, _, hpass⟩ := grantPass_changes (accepted o l s)
    refine congrArg (Prod.mk ResultCode.accepted) (if_neg ?_)
    rw [hpass]
    exact fun h => nomatch hd.symm.trans h

/-- A request of the detect unit or of the boot load that is accepted records nothing (R136, R191). -/
theorem noteRefusal_of_accepted (l : Load) (s : State) : noteRefusal l (.accepted, s) = s := rfl

theorem continueDescent_of_inactive {l : Load} {s : State} (h : s.descent = .inactive) : continueDescent l s = s := by
  simp only [continueDescent, h]

/-- The end of a descent leaves the standby descent to what follows its pass. -/
theorem grantPass_descentSettled_descent (l : Load) (a : After) (s : State) :
    (grantPass (descentSettled l a s)).descent = s.descent :=
  calc
    (grantPass (descentSettled l a s)).descent = (grantPass (descentSettled l a (s.withDescent s.descent))).descent := rfl
    _ = s.descent := by
      rw [descentSettled_withDescent, grantPass_withDescent]
      rfl

/-- Settles O20: each event ends in a pass, and what follows the pass leaves the account alone. -/
theorem triggersLeaveNothingToGrant : Obligations.TriggersLeaveNothingToGrant := by
  unfold Obligations.TriggersLeaveNothingToGrant
  intro s t i hr ho hquiet htrig hexec
  refine State.settled.grantPass_eq ?_
  cases i with
  | wakeEvent =>
    obtain ⟨hf, hdue⟩ := htrig
    rw [next_inj hexec (takeEvent_alone hr rfl (takeWake_of_due (s := s.without _) hf hdue))]
    exact grantPass_settled _
  | request =>
    obtain ⟨hc, l, harg, hs, hv⟩ := htrig
    obtain ⟨hfacet, hd⟩ := hquiet.resolve_left nofun
    have hrequest := request_settled (o := .host) (l := l) (s := s.taken 0x01) hd hs ((State.verdict_congr rfl rfl rfl).trans hv)
    rw [next_inj hexec (immediate_of_takesCommands hc), onLoad_of_arg harg, hrequest]
    exact .of_pass rfl
  | autoRequest l =>
    obtain ⟨hs, hv⟩ := htrig
    obtain ⟨hfacet, hd⟩ := hquiet.resolve_left nofun
    have hrequest := request_settled (o := .auto) (l := l) (s := s.consume (.autoRequest l)) hd hs ((State.verdict_congr rfl rfl rfl).trans hv)
    rw [next_inj hexec (takeInOrder_of_no_older hr ho), deliver, takeAutoRequest, hrequest]
    exact grantPass_settled _
  | bootRequest l =>
    obtain ⟨hs, hv⟩ := htrig
    obtain ⟨hfacet, hd⟩ := hquiet.resolve_left nofun
    have hrequest := request_settled (o := .boot) (l := l) (s := s.consume (.bootRequest l)) hd hs ((State.verdict_congr rfl rfl rfl).trans hv)
    rw [next_inj hexec (takeInOrder_of_no_older hr ho), deliver, takeBootRequest, hrequest]
    exact grantPass_settled _
  | release =>
    obtain ⟨hc, l, harg, hs⟩ := htrig
    rw [next_inj hexec (exec_release hc harg), releaseLoad_of_other (s := s.taken 0x02) (releaseByState_of_queued hs) nofun]
    exact .of_pass rfl
  | autoRelease l =>
    have hrelease := releaseLoad_of_other (s := s.consume (.autoRelease l)) (releaseByState_of_queued htrig) nofun
    rw [next_inj hexec (takeInOrder_of_no_older hr ho), deliver, takeAutoRelease, hrelease]
    exact grantPass_settled _
  | loadUp l =>
    rw [next_inj hexec (takeInOrder_alone hr rfl ho (takeLoadUp_of_rising (s := s.without _) htrig))]
    exact grantPass_settled _
  | descentEnded l =>
    obtain ⟨a, ha⟩ := htrig
    obtain ⟨hfacet, hd⟩ := hquiet.resolve_left nofun
    have hended := takeDescentEnded_of_descending (s := s.without (.descentEnded l)) ha
    rw [continueDescent_of_inactive ((grantPass_descentSettled_descent l a (s.without (.descentEnded l))).trans hd)] at hended
    rw [next_inj hexec (takeInOrder_alone hr rfl ho hended)]
    exact grantPass_settled _
  | coolDownExpiry l =>
    obtain ⟨hs, ht⟩ := htrig
    rw [next_inj hexec (takeEvent_alone hr rfl (takeCoolDownExpiry_of_cooling (s := s.without _) hs ht))]
    exact grantPass_settled _
  | lowsupFilterChange b =>
    obtain ⟨hne, hdue, hrise⟩ := htrig
    obtain ⟨-, hchange, -⟩ := ceilingIsRecomputed b s
    rw [next_inj hexec (hchange hr hne hdue), recomputeCeiling_of_gt hrise]
    exact grantPass_settled _
  | setBudget =>
    obtain ⟨hc, hfull, hreduced, hrise⟩ := htrig
    obtain ⟨-, -, hset, -⟩ := ceilingIsRecomputed false s
    rw [next_inj hexec (hset hc hfull hreduced), recomputeCeiling_of_gt hrise]
    exact .of_pass rfl
  | setOvertake =>
    obtain ⟨hc, hlimit⟩ := htrig
    obtain ⟨-, hset⟩ := setOvertakeReplacesTheLimit s hc
    rw [next_inj hexec (hset hlimit)]
    exact .of_pass rfl
  | resume =>
    obtain ⟨hc, hh⟩ := htrig
    obtain ⟨-, hresume⟩ := resumeEndsHalt s hc
    rw [next_inj hexec (hresume hh)]
    exact .of_pass rfl
  | _ => exact htrig.elim

end Sys2Proof.Machine
end

section
/-! Which entries a grant pass grants, and whose count rises (R28, R33 to R35). -/

namespace Sys2Proof.Machine

theorem filter_mem_of_sublist {α : Type} [DecidableEq α] {xs ys : List α} (h : xs.Sublist ys) (hys : ys.Nodup) :
    ys.filter (fun y => y ∈ xs) = xs := by
  induction h with
  | slnil => rfl
  | @cons xs ys y hsub ih =>
    obtain ⟨hy, hys⟩ := List.nodup_cons.mp hys
    rw [List.filter_cons_of_neg (by simpa using fun hm => hy (hsub.subset hm)), ih hys]
  | @cons_cons xs ys y hsub ih =>
    obtain ⟨hy, hys⟩ := List.nodup_cons.mp hys
    rw [List.filter_cons_of_pos (by simp)]
    refine congrArg (y :: ·) ((List.filter_congr fun z hz => ?_).trans (ih hys))
    have hne : z ≠ y := by rintro rfl; exact hy hz
    simp [hne]

section
variable {s : State} {pre q : List Entry} {e : Entry}

/-- The entries ahead of one of the queue (R33). -/
theorem State.ahead_eq (hq : s.queue = pre ++ e :: q) (he : e ∉ pre) : s.ahead e = pre := by
  have hpre : ∀ x ∈ pre, decide (x ≠ e) = true := fun x hx => decide_eq_true (by rintro rfl; exact he hx)
  rw [State.ahead, hq, List.takeWhile_append_of_pos hpre]
  simp

theorem State.mem_ahead {x : Entry} (hq : s.queue = pre ++ e :: q) (hx : x ∈ q) (hnodup : s.queue.Nodup) : e ∈ s.ahead x := by
  rw [hq] at hnodup
  obtain ⟨as, bs, rfl⟩ := List.append_of_mem hx
  have hsplit : s.queue = (pre ++ e :: as) ++ x :: bs := by rw [hq]; simp
  have hnot : x ∉ pre ++ e :: as := by
    rw [← List.cons_append, ← List.append_assoc] at hnodup
    exact fun hm => (List.nodup_append.mp hnodup).2.2 x hm x (by simp) rfl
  rw [State.ahead_eq hsplit hnot]
  simp

/-- The running headroom at an entry's turn is the headroom that the grants before it leave (R33). -/
theorem State.roomAt_eq {G g : List Entry} (hq : s.queue = pre ++ e :: q) (he : e ∉ pre)
    (hg : pre.filter (fun x => x ∈ G) = g) : s.roomAt G e = (grantAll g s).headroom := by
  rw [State.roomAt, State.ahead_eq hq he, hg, State.headroom, grantAll_ceiling, grantAll_committed, Nat.sub_sub]

/-- The grants of a pass make no load UP and take none out of UP (R28, R36). -/
theorem eligible_grantAll_iff {g : List Entry} (hg : ∀ x ∈ g, (s.load x.load).state = .queued) :
    eligible (grantAll g s) e = true ↔ s.admits e := by
  have hup (p : Load) : ((grantAll g s).load p).state = .up ↔ (s.load p).state = .up := by
    rw [grantAll_load]
    split
    next hp =>
      obtain ⟨x, hx, rfl⟩ := List.mem_map.mp hp
      rw [hg x hx]
      exact iff_of_false nofun nofun
    next => exact Iff.rfl
  have hconfig : (grantAll g s).loadConfig = s.loadConfig := by
    funext l
    rw [State.loadConfig, grantAll_config]
    rfl
  have hfacet : (grantAll g s).standbyFacet = s.standbyFacet := by
    rw [grantAll_frame]
    rfl
  rw [eligible_iff]
  simp only [State.admits, hup, hconfig, hfacet, grantAll_config, grantAll_ceiling]

theorem scan_of_ineligible (h : eligible s e = false) : (scan (e :: q) s).1 = e :: (scan q s).1 := by
  rw [scan, if_pos (by simp [h])]

theorem scan_of_fitting (h : eligible s e = true) (hfit : s.config.claimOf e.load ≤ s.headroom) :
    (scan (e :: q) s).1 = (scan q (grant e s)).1 ∧ grantedBy (e :: q) s = e :: grantedBy q (grant e s) := by
  have hin : ¬(!eligible s e) = true := by simp [h]
  rw [scan, grantedBy, if_neg hin, if_neg hin, if_pos hfit, if_pos hfit]
  exact ⟨rfl, rfl⟩

theorem scan_of_bypassed (h : eligible s e = true) (hfit : ¬s.config.claimOf e.load ≤ s.headroom)
    (hlimit : e.overtaken < s.config.overtake) :
    (scan (e :: q) s).1 = (if grantedBy q s = [] then e else { e with overtaken := e.overtaken + 1 }) :: (scan q s).1
      ∧ grantedBy (e :: q) s = grantedBy q s := by
  have hany : (scan q s).2.1 = true ↔ ¬grantedBy q s = [] := by simp [scan_any]
  have hin : ¬(!eligible s e) = true := by simp [h]
  rw [scan, grantedBy, if_neg hin, if_neg hin, if_neg hfit, if_neg hfit, if_pos hlimit, if_pos hlimit]
  refine ⟨congrArg (· :: (scan q s).1) ?_, rfl⟩
  rw [if_congr hany rfl rfl, ite_not]

theorem scan_of_stopped (h : eligible s e = true) (hfit : ¬s.config.claimOf e.load ≤ s.headroom)
    (hlimit : ¬e.overtaken < s.config.overtake) : (scan (e :: q) s).1 = e :: q ∧ grantedBy (e :: q) s = [] := by
  have hin : ¬(!eligible s e) = true := by simp [h]
  rw [scan, grantedBy, if_neg hin, if_neg hin, if_neg hfit, if_neg hfit, if_neg hlimit, if_neg hlimit]
  exact ⟨rfl, rfl⟩

end

/-- The count of an entry that a pass leaves (R35). -/
def State.recounted (s : State) (granted : List Entry) (e : Entry) : Entry :=
  if s.bypassed granted e ∧ ∃ x ∈ granted, x ∉ s.ahead e then { e with overtaken := e.overtaken + 1 } else e

/-- What a pass grants, and what it leaves of an entry (R33 to R35). -/
def State.treats (s : State) (granted : List Entry) (e : Entry) : Prop :=
  s.reached granted e ∧ s.admits e ∧ s.config.claimOf e.load ≤ s.roomAt granted e

/-- A pass from one of its entries on: what stands ahead has been treated, and holds nothing back (R33). -/
theorem scan_from {s : State} (hs : s.queueSound) {G : List Entry} (q pre g : List Entry) (hq : s.queue = pre ++ q)
    (hg : pre.filter (fun x => x ∈ G) = g) (hG : G = g ++ grantedBy q (grantAll g s)) (hpre : ∀ x ∈ pre, ¬s.holdsPass G x) :
    (∀ e ∈ q, e ∈ G ↔ s.treats G e)
      ∧ (scan q (grantAll g s)).1 = (q.filter fun e => e ∉ G).map (s.recounted G) := by
  obtain ⟨hloads, hqueued, -⟩ := hs
  have hnodup : s.queue.Nodup := List.Nodup.of_map _ hloads
  induction q generalizing pre g with
  | nil => exact ⟨fun e he => (nomatch he), rfl⟩
  | cons e q ih =>
    have hsplit := hq ▸ hnodup
    have he_pre : e ∉ pre := fun hm => (List.nodup_append.mp hsplit).2.2 e hm e (by simp) rfl
    have he_q : e ∉ q := (List.nodup_cons.mp (List.nodup_append.mp hsplit).2.1).1
    have hg_pre : ∀ x ∈ g, x ∈ pre := fun x hx => List.mem_of_mem_filter (hg ▸ hx)
    have hg_queued : ∀ x ∈ g, (s.load x.load).state = .queued := fun x hx =>
      (hqueued x.load).mp (List.mem_map.mpr ⟨x, hq ▸ List.mem_append_left _ (hg_pre x hx), rfl⟩)
    have heligible : eligible (grantAll g s) e = true ↔ s.admits e := eligible_grantAll_iff hg_queued
    have hroom : s.roomAt G e = (grantAll g s).headroom := State.roomAt_eq hq he_pre hg
    have hconfig := grantAll_config g s
    have hahead : s.ahead e = pre := State.ahead_eq hq he_pre
    have hreached : s.reached G e := fun x hx => hpre x (hahead ▸ hx)
    have hnext : s.queue = (pre ++ [e]) ++ q := by rw [hq, List.append_assoc]; rfl
    have he_g : e ∉ g := fun hm => he_pre (hg_pre e hm)
    have he_rest (u : State) : e ∉ grantedBy q u := fun hm => he_q ((grantedBy_sublist q u).subset hm)
    have goOn (g' : List Entry) (hg' : (pre ++ [e]).filter (fun x => x ∈ G) = g')
        (hG' : G = g' ++ grantedBy q (grantAll g' s)) (hhold : ¬s.holdsPass G e) := ih (pre ++ [e]) g' hnext hg' hG' (fun x hx => by
      rcases List.mem_append.mp hx with hx | hx
      · exact hpre x hx
      · rw [List.mem_singleton.mp hx]
        exact hhold)
    have hleft (he : e ∉ G) : (pre ++ [e]).filter (fun x => x ∈ G) = g := by simp [List.filter_append, hg, he]
    have hkept (he : e ∉ G) (rest : List Entry) (hrest : rest = (q.filter fun e => e ∉ G).map (s.recounted G)) :
        s.recounted G e :: rest = ((e :: q).filter fun e => e ∉ G).map (s.recounted G) := by
      rw [List.filter_cons_of_pos (by simpa using he), List.map_cons, hrest]
    by_cases hin : s.admits e
    · have helig := heligible.mpr hin
      by_cases hfit : (grantAll g s).config.claimOf e.load ≤ (grantAll g s).headroom
      · obtain ⟨hscan, hgranted⟩ := scan_of_fitting (q := q) helig hfit
        have hgrant : grant e (grantAll g s) = grantAll (g ++ [e]) s := by simp [grantAll]
        rw [hgranted, hgrant, ← List.singleton_append, ← List.append_assoc] at hG
        have he : e ∈ G := by rw [hG]; simp
        have hclaim : s.config.claimOf e.load ≤ s.roomAt G e := by rw [hroom, ← hconfig]; exact hfit
        obtain ⟨hmem, hrest⟩ := goOn (g ++ [e]) (by simp [List.filter_append, hg, he]) hG fun h => h.2.1.not_ge hclaim
        refine ⟨fun x hx => ?_, ?_⟩
        · rcases List.mem_cons.mp hx with rfl | hx
          · exact iff_of_true he ⟨hreached, hin, hclaim⟩
          · exact hmem x hx
        · rw [hscan, hgrant, hrest, List.filter_cons_of_neg (by simpa using he)]
      · have hclaim : ¬s.config.claimOf e.load ≤ s.roomAt G e := by rw [hroom, ← hconfig]; exact hfit
        by_cases hlimit : e.overtaken < (grantAll g s).config.overtake
        · obtain ⟨hscan, hgranted⟩ := scan_of_bypassed (q := q) helig hfit hlimit
          rw [hgranted] at hG
          have he : e ∉ G := by
            rw [hG, List.mem_append]
            exact not_or.mpr ⟨he_g, he_rest _⟩
          rw [hconfig] at hlimit
          obtain ⟨hmem, hrest⟩ := goOn g (hleft he) hG fun h => h.2.2.not_gt hlimit
          have hany : (∃ x ∈ G, x ∉ s.ahead e) ↔ ¬grantedBy q (grantAll g s) = [] := by
            rw [hahead]
            refine ⟨fun ⟨x, hx, hx_pre⟩ hnil => hx_pre (hg_pre x ?_), fun hne => ?_⟩
            · rw [hG, hnil, List.append_nil] at hx
              exact hx
            · obtain ⟨x, hx⟩ := List.exists_mem_of_ne_nil _ hne
              have hx_q : x ∈ e :: q := List.mem_cons_of_mem e ((grantedBy_sublist q _).subset hx)
              exact ⟨x, hG ▸ List.mem_append_right g hx, fun hx_pre => (List.nodup_append.mp hsplit).2.2 x hx_pre x hx_q rfl⟩
          have hcount : (if grantedBy q (grantAll g s) = [] then e else { e with overtaken := e.overtaken + 1 }) = s.recounted G e := by
            rw [State.recounted, ← ite_not]
            exact (if_congr ((and_iff_right ⟨hreached, hin, not_le.mp hclaim, hlimit⟩).trans hany) rfl rfl).symm
          refine ⟨fun x hx => ?_, ?_⟩
          · rcases List.mem_cons.mp hx with rfl | hx
            · exact iff_of_false he fun h => hclaim h.2.2
            · exact hmem x hx
          · rw [hscan, hcount]
            exact hkept he _ hrest
        · obtain ⟨hscan, hgranted⟩ := scan_of_stopped (q := q) helig hfit hlimit
          rw [hconfig] at hlimit
          have hnone : ∀ x ∈ e :: q, x ∉ G := fun x hx => by
            rw [hG, hgranted, List.append_nil]
            exact fun hm => (List.nodup_append.mp hsplit).2.2 x (hg_pre x hm) x hx rfl
          have hholds : s.holdsPass G e := ⟨hin, not_le.mp hclaim, not_lt.mp hlimit⟩
          have hbehind : ∀ x ∈ q, ¬s.reached G x := fun x hx hr => hr e (State.mem_ahead hq hx hnodup) hholds
          have hcount : ∀ x ∈ e :: q, s.recounted G x = x := fun x hx => if_neg fun h => by
            rcases List.mem_cons.mp hx with rfl | hx
            · exact hlimit h.1.2.2.2
            · exact hbehind x hx h.1.1
          refine ⟨fun x hx => iff_of_false (hnone x hx) fun h => ?_, ?_⟩
          · rcases List.mem_cons.mp hx with rfl | hx
            · exact hclaim h.2.2
            · exact hbehind x hx h.1
          · rw [hscan, List.filter_eq_self.mpr fun x hx => by simpa using hnone x hx]
            exact ((List.map_congr_left hcount).trans (List.map_id' _)).symm
    · have hnone : eligible (grantAll g s) e = false := Bool.eq_false_iff.mpr (mt heligible.mp hin)
      rw [grantedBy_cons_of_ineligible hnone] at hG
      have he : e ∉ G := by
        rw [hG, List.mem_append]
        exact not_or.mpr ⟨he_g, he_rest _⟩
      obtain ⟨hmem, hrest⟩ := goOn g (hleft he) hG fun h => hin h.1
      have hcount : e = s.recounted G e := (if_neg fun h => hin h.1.2.1).symm
      refine ⟨fun x hx => ?_, ?_⟩
      · rcases List.mem_cons.mp hx with rfl | hx
        · exact iff_of_false he fun h => hin h.2.1
        · exact hmem x hx
      · rw [scan_of_ineligible hnone]
        exact (congrArg (· :: _) hcount).trans (hkept he _ hrest)

/-- Settles O17: the pass from its first entry on. -/
theorem grantPassCountsPassedEntries : Obligations.GrantPassCountsPassedEntries := by
  unfold Obligations.GrantPassCountsPassedEntries
  intro s hr hh ho hs
  set x := s.without .grantPass with hx
  have hnodup : s.queue.Nodup := List.Nodup.of_map _ hs.1
  obtain ⟨hmem, hscan⟩ := scan_from (s := x) hs x.queue [] [] rfl rfl rfl (fun _ h => nomatch h)
  refine ⟨_, grantedBy x.queue x, takeEvent_alone hr rfl (grantPass_of_started (s := s.without _) hh ho), grantAll_holders _ x, ?_, hscan⟩
  refine (filter_mem_of_sublist (grantedBy_sublist x.queue x) hnodup).symm.trans (List.filter_congr fun e he => ?_)
  exact decide_eq_decide.mpr (hmem e he)

end Sys2Proof.Machine
end

section
/-! Requests and releases that do not come from the mailbox (R135 to R141, R191). -/

namespace Sys2Proof.Machine

/-! ## A release does not read the mailbox -/

/-- The mailbox, as a command writes it. -/
structure Mailbox where
  unit : UnitState
  args : Vector Byte 4
  cmd : Byte
  argCopy : Vector Byte 4
  resultSeq : Byte
  result : ResultCode
  cmdDone : Bool

/-- The part with another mailbox. -/
def State.withMailbox (s : State) (m : Mailbox) : State :=
  { s with unit := m.unit, args := m.args, cmd := m.cmd, argCopy := m.argCopy, resultSeq := m.resultSeq, result := m.result,
           cmdDone := m.cmdDone }

section
variable (m : Mailbox)

theorem withMailbox_passBlind : PassBlind (State.withMailbox · m) where
  eligible _ _ := rfl
  headroom _ := rfl
  config _ := rfl
  queue _ := rfl
  stopped _ := rfl
  setQueue _ _ := rfl
  grant s e := by
    rw [grant_eq, grant_eq]
    rfl

theorem beginDrain_withMailbox (l : Load) (s : State) : beginDrain l (s.withMailbox m) = (beginDrain l s).withMailbox m := by
  have hfold (ls : List Load) (u : State) :
      ls.foldl drainDescendant (u.withMailbox m) = (ls.foldl drainDescendant u).withMailbox m := by
    rw [drainDescendant_eq]
    induction ls generalizing u with
    | nil => rfl
    | cons x ls ih => exact ih (onRecord LoadRun.drained (fun x r => if r.state.standing then [.orderlyDescentOrder x] else []) u x)
  have hlist : (s.withMailbox m).holdingDescendants l = s.holdingDescendants l := rfl
  have hset : (s.withMailbox m).setLoad l { (s.withMailbox m).load l with state := .draining } =
      (s.setLoad l { s.load l with state := .draining }).withMailbox m := rfl
  rw [beginDrain, beginDrain, hlist, hset, hfold, recordToDrain_eq, recordToDrain_eq]
  rfl

theorem releaseByState_withMailbox (l : Load) (s : State) :
    releaseByState l (s.withMailbox m) = ((releaseByState l s).1, (releaseByState l s).2.withMailbox m) := by
  have hload : (s.withMailbox m).load l = s.load l := rfl
  unfold releaseByState
  rw [hload]
  cases (s.load l).state with
  | queued => exact congrArg (Prod.mk ResultCode.accepted) ((withMailbox_passBlind m).grantPass
    (enterIdle l { s with queue := s.queue.filter fun e => e.load != l }))
  | up =>
    dsimp only
    rw [beginDrain_withMailbox, show (s.withMailbox m).holdingDescendants l = s.holdingDescendants l from rfl]
    split <;> rfl
  | descending a => cases a <;> rfl
  | idle | draining | rising | cooling | locked | absorbed | void => rfl

theorem releaseLoad_withMailbox (l : Load) (s : State) :
    (releaseLoad l (s.withMailbox m)).2 = (releaseLoad l s).2.withMailbox m := by
  have h := releaseByState_withMailbox m l { s with resume := s.resume.filter (· != l) }
  exact congrArg Prod.snd h

end

/-! ## What a DATA write waits for -/

theorem finOfByte_eq_some_iff {n : Nat} {v : Byte} {k : Fin n} : finOfByte n v = some k ↔ v.toNat = k.val := by
  refine ⟨fun h => ?_, finOfByte_of_toNat⟩
  unfold finOfByte at h
  split at h
  · cases h
    rfl
  · cases h

theorem waitsFor_chan {s : State} {c : Chan} {f : ChanField} {v : Byte} {j : Instr} {source : DetectSource} :
    waitsFor s (.chan c f) v j source = true ↔
      f = .detect ∧ v = 1 ∧ s.config.acting c = true ∧ j = .autoRequest (s.config.servedLoad c) ∧ source = .change c := by
  simp [waitsFor, and_assoc]

theorem waitsFor_slot {s : State} {g : Group} {k : Slot8} {v : Byte} {j : Instr} {source : DetectSource} :
    waitsFor s (.slot g k) v j source = true ↔
      k = 0 ∧ v = 0xFF ∧ j = .autoRequest (groupLoad g) ∨ ∃ c : Chan, v.toNat = c.val ∧ j = .autoRequest (ownLoad c) := by
  have hzero : k.val = 0 ↔ k = 0 := Fin.val_eq_zero_iff
  cases j with
  | autoRequest l =>
    simp [waitsFor, requestFor, Option.any_eq_true, finOfByte_eq_some_iff, hzero, and_assoc]
  | _ => simp [waitsFor, requestFor]

/-! ## Requests of the detect unit and of the boot load -/

theorem exec_autoRelease {l : Load} {s : State} (hr : s.running = true) (ho : s.older (.autoRelease l) = []) :
    exec (.autoRelease l) s = .next (releaseLoad l (s.consume (.autoRelease l))).2 := takeInOrder_of_no_older hr ho

section
variable {o : Origin} {l : Load} {s : State}

/-- A refusal that is recorded (R136, R191). -/
theorem noteRefusal_of_refused {code : ResultCode} (h : request o l s = (code, s)) (hd : code.refusedDetail = true) :
    noteRefusal l (request o l s) = { s with fifo := s.fifoAfter [.refused l code] } := by
  rw [h, noteRefusal_eq, if_pos hd]

/-- A result that is not recorded (R136, R191). -/
theorem noteRefusal_of_silent {r : ResultCode × State} (h : request o l s = r) (hd : r.1.refusedDetail = false) :
    noteRefusal l (request o l s) = r.2 := by
  rw [h, noteRefusal, if_neg (Bool.eq_false_iff.mp hd)]

end

/-- Settles O15: releases of the detect unit, what a DATA write waits for, and the requests of both origins. -/
theorem detectAndBootRequestsAreJudged : Obligations.DetectAndBootRequestsAreJudged := by
  unfold Obligations.DetectAndBootRequestsAreJudged
  refine fun l s i o hr => ⟨fun ho => ?_, fun v j source => ?_, fun v => ?_, fun hi ho => ?_⟩
  · have hphase : s.phase = .released := ((running_iff s).mp hr).1
    set x : State := { s.consume (.autoRelease l) with unit := .ready, args := #v[BitVec.ofNat 8 l.val, 0, 0, 0] } with hx
    have harg : x.args[0].toNat = l.val := by
      have := l.isLt
      change (BitVec.ofNat 8 l.val).toNat = l.val
      rw [BitVec.toNat_ofNat]
      omega
    refine ⟨_, exec_release (s := x) ⟨hphase, rfl⟩ harg, ?_⟩
    rw [exec_autoRelease hr ho]
    have hbox : x.taken 0x02 = (s.consume (.autoRelease l)).withMailbox
      ⟨.ready, x.args, 0x02, x.args, s.resultSeq + 1, s.result, false⟩ := rfl
    rw [hbox, releaseLoad_withMailbox]
    have hserved := (releaseLoad_served l (s.consume (.autoRelease l))).frame
    generalize (releaseLoad l (s.consume (.autoRelease l))).2 = t at hserved
    rw [hserved]
    rfl
  · generalize locate s.index = loc
    cases loc with
    | chan c f => exact waitsFor_chan
    | slot g k => exact waitsFor_slot
    | _ => simp [waitsFor]
  · simp only [settleForWrite, Option.isNone_iff_eq_none]
  · intro before u disabled state
    have hexec : exec i s = .next (noteRefusal l (request o l u)) := by
      rcases hi with ⟨rfl, rfl⟩ | ⟨rfl, rfl⟩
      · have hu : s.consume (.autoRequest l) = u := State.consume_detect_eq s (fun j => by cases j <;> rfl) rfl
        rw [← hu]
        exact takeInOrder_of_no_older hr ho
      · have hu : s.consume (.bootRequest l) = u := State.consume_eq s rfl
        rw [← hu]
        exact takeInOrder_of_no_older hr ho
    have hdisabled : u.config.allEnabled l = false ↔ disabled := Image.allEnabled_eq_false_iff
    have hoversize (hnot : ¬disabled) : ¬u.config.allEnabled l = false := mt hdisabled.mp hnot
    refine ⟨fun hh => ?_, fun hh => ⟨fun hs => ?_, fun hs => ?_, fun hs hd => ?_, fun hs hd hc => ?_, fun hs hd hc => ?_,
      fun hs => ?_, fun hs => ?_⟩⟩
    · have hrequest := request_of_ignored (o := o) (l := l) (s := u) (.inl hh)
      rw [if_pos (show u.halted = true from hh)] at hrequest
      rw [hexec, noteRefusal_of_refused hrequest rfl]
      rfl
    · have hnot : u.halted = false := hh
      have hmem : (u.load l).state ∈ [LoadState.queued, .rising, .up, .descending .requeue, .descending .retry, .cooling, .locked,
          .absorbed, .void] := by
        simp only [List.mem_cons, List.not_mem_nil, or_false] at hs ⊢
        exact hs.imp_right (.imp_right (.imp_right (.imp_right (.imp_right (.imp_right .inr)))))
      rw [hexec, noteRefusal_of_silent (request_of_ignored (o := o) (l := l) (s := u) (.inr hmem))]
      have hstate : (u.load l).state = state := rfl
      rw [hstate, hnot]
      simp only [List.mem_cons, List.not_mem_nil, or_false] at hs
      rcases hs with hs | hs | hs | hs | hs | hs | hs | hs <;> rw [hs] <;> rfl
    · have hlocked : (u.load l).state = .locked := hs
      have hrequest := request_of_ignored (o := o) (l := l) (s := u) (.inr (by rw [hlocked]; simp))
      rw [if_neg (Bool.eq_false_iff.mp (show u.halted = false from hh)), if_pos hlocked] at hrequest
      rw [hexec, noteRefusal_of_refused hrequest rfl]
      rfl
    · have hrequest := request_of_idle (o := o) (l := l) (s := u) hh hs
      rw [if_pos (hdisabled.mpr hd)] at hrequest
      rw [hexec, noteRefusal_of_refused hrequest rfl]
      rfl
    · have hrequest := request_of_idle (o := o) (l := l) (s := u) hh hs
      rw [if_neg (hoversize hd), if_pos hc] at hrequest
      rw [hexec, noteRefusal_of_refused hrequest rfl]
      rfl
    · have hrequest := request_of_idle (o := o) (l := l) (s := u) hh hs
      rw [if_neg (hoversize hd), if_neg (show ¬u.config.full < u.config.claimOf l from not_lt.mpr hc)] at hrequest
      rw [hexec, noteRefusal_of_silent hrequest rfl]
      rfl
    · rw [hexec, noteRefusal_of_silent (request_of_descending_idle (o := o) (l := l) (s := u) hh hs) rfl]
      rfl
    · rw [hexec, noteRefusal_of_silent (request_of_draining (o := o) (l := l) (s := u) hh hs) rfl]
      rfl

end Sys2Proof.Machine
end

section
/-! The notice FIFO, the clock and the resets (R143, R161, R162, R167, R188, R193, R194). -/

namespace Sys2Proof.Machine

/-! ## The FIFO -/

section
variable {n : Notice} {now : Word16} {fifo held : List Record}

theorem storeNotice_of_room (h : fifo.length ≤ 14) : storeNotice n now fifo = fifo ++ [{ notice := n, time := now }] := if_pos h

/-- A record that OVERFLOW counts at the tail (R162). -/
theorem storeNotice_of_overflow {k : Nat} {time : Word16} (hf : fifo = held ++ [{ notice := .overflow k, time := time }])
    (h : 15 ≤ fifo.length) : storeNotice n now fifo =
      held ++ [{ notice := .overflow (if k < 255 then k + 1 else 255), time := time }] := by
  have hfull : ¬fifo.length ≤ Config.fifoOrdinary := by
    rw [Config.fifoOrdinary]
    omega
  have hcount : min (k + 1) Config.maxDropped = if k < 255 then k + 1 else 255 := by
    rw [Config.maxDropped]
    split <;> omega
  rw [storeNotice, if_neg hfull, hf]
  simp [hcount]

/-- The sixteenth place takes the OVERFLOW record (R162). -/
theorem storeNotice_of_last {r : Record} (hf : fifo = held ++ [r]) (hr : kindCode r.notice ≠ 15) (h : fifo.length = 15) :
    storeNotice n now fifo = fifo ++ [{ notice := .overflow 1, time := now }] := by
  have hfull : ¬fifo.length ≤ Config.fifoOrdinary := by rw [Config.fifoOrdinary]; omega
  have hroom : fifo.length < Config.fifoDepth := by rw [Config.fifoDepth]; omega
  have hlast : fifo.getLast? = some r := by rw [hf]; simp
  rw [storeNotice, if_neg hfull, hlast, if_pos hroom]
  obtain ⟨notice, time⟩ := r
  cases notice with
  | overflow k => exact absurd rfl hr
  | _ => rfl

end

theorem kindEnabled_of_wellFormed {n : Notice} (h : n.wellFormed = true) (mask : BitVec 12) :
    kindEnabled mask n = mask.getLsbD (kindCode n - 1) := by
  cases n with
  | overflow k => cases h
  | _ => rfl

/-- Settles O57: a notice that is masked, stored, counted, or the first that does not fit. -/
theorem noticeHandoverFillsTheFifo : Obligations.NoticeHandoverFillsTheFifo := by
  unfold Obligations.NoticeHandoverFillsTheFifo
  intro n s hr hwell
  dsimp only
  rw [State.consume_eq _ rfl]
  have hkind := kindEnabled_of_wellFormed hwell s.config.mask
  refine ⟨fun hoff => ?_, fun hon => ?_⟩
  · refine takeEvent_alone hr rfl (if_neg ?_)
    exact Bool.eq_false_iff.mp (hkind.trans hoff)
  · have hexec : exec (.noticeHandover n) s = .next { s.without (.noticeHandover n) with fifo := storeNotice n s.clock s.fifo } :=
      takeEvent_alone hr rfl (if_pos (hkind.trans hon))
    refine ⟨fun h => ?_, fun held k time hf h => ?_, fun held r hf hk h => ?_⟩
    · rw [hexec, storeNotice_of_room h]
      rfl
    · rw [hexec, storeNotice_of_overflow hf h]
      rfl
    · rw [hexec, storeNotice_of_last hf hk h]
      rfl

/-! ## The clock -/

/-- Settles O58: each timer and each filter on its own. -/
theorem clockTickCountsAMillisecond : Obligations.ClockTickCountsAMillisecond := by
  unfold Obligations.ClockTickCountsAMillisecond
  intro s counted held
  have hcounted (x : Timer) : x.tick = counted x := by cases x <;> rfl
  refine ⟨fun h => execClockTick_idle h, fun h => ?_⟩
  have hexec : exec .clockTick s = .next (tick s) := congrArg Host.Outcome.next (if_pos (State.released_iff.mpr h))
  refine ⟨_, hexec, ?_, fun c => ?_, fun l => ?_, fun l => ?_, ?_, ?_, ?_, rfl⟩
  · have hlt := s.clock.isLt
    have hadd : (s.clock + 1).toNat = (s.clock.toNat + 1) % 65536 := by simp [BitVec.toNat_add]
    refine hadd.trans ?_
    split <;> omega
  · refine (tick_chan s c).trans ?_
    rw [← hcounted, ← hcounted]
    unfold Channel.tick
    cases (s.chan c).discharge <;> rfl
  · refine (tick_load s l).trans ?_
    rw [← hcounted, ← hcounted]
    rfl
  · refine (Vector.getElem_ofFn _).trans ?_
    refine congrArg (fun f => Option.map f (s.record l)) (funext fun r => ?_)
    rw [← hcounted]
    rfl
  · change s.descent.tick = _
    unfold Descent.tick
    cases s.descent <;> rfl
  · rfl
  · rfl

end Sys2Proof.Machine
end

section
/-! SUPPORT. What a reset leaves of the part and of the slots, for O59. -/

namespace Sys2Proof.Machine

variable (s : State)

/-- An abandoned operation of the profile store touches the slots and the count of free values. -/
theorem abandonStore_frame (p : StoreProgress) : abandonStore p s = { s with
    slotA := (abandonStore p s).slotA, slotB := (abandonStore p s).slotB, freeCount := (abandonStore p s).freeCount } := by
  obtain ⟨save, erase⟩ := p
  unfold abandonStore
  split
  next buffer target generation _ => cases target <;> cases save <;> rfl
  next => cases erase <;> rfl
  next => rfl
  next => rfl
  next => rfl

theorem Slot.valid_of_no_match {x : Slot} (h : x.checkMatches = false) : x.valid = false := by
  unfold Slot.valid
  rw [h]
  rfl

variable {s : State} {p : StoreProgress}

theorem abandonStore_of_idle (hsave : ∀ b x g, s.unit ≠ .executing (.save b x g)) (herase : s.unit ≠ .executing .erase) :
    abandonStore p s = s := by
  unfold abandonStore
  split
  next buffer target generation h => exact absurd h (hsave buffer target generation)
  next h => exact absurd h herase
  next => rfl
  next => rfl
  next => rfl

theorem abandonStore_of_save {buffer : Image} {target : SlotId} {generation : Word16}
    (h : s.unit = .executing (.save buffer target generation)) :
    abandonStore p s = abandonSave p.save buffer target generation s := by
  unfold abandonStore
  rw [h]

theorem abandonStore_of_erase (h : s.unit = .executing .erase) : abandonStore p s = abandonErase p.erase s := by
  unfold abandonStore
  rw [h]

variable (s p) in
/-- The channels of a part in reset keep the levels of their pins. -/
theorem resetState_abandonStore_chan (phase : PowerPhase) (c : Chan) : (resetState phase (abandonStore p s)).chan c =
    { State.reset.chan c with
      pgLine := (s.chan c).pgLine, fltLine := (s.chan c).fltLine, detLine := (s.chan c).detLine } := by
  have hreset : State.reset.chan c = Channel.atReset false false false := Vector.getElem_replicate _
  have hkept : (abandonStore p s).chan c = s.chan c := by rw [abandonStore_frame]; rfl
  refine (Vector.getElem_ofFn _).trans ?_
  rw [hreset]
  change Channel.atReset ((abandonStore p s).chan c).pgLine _ _ = _
  rw [hkept]
  rfl

variable (s p) in
theorem resetState_eq (phase : PowerPhase) : resetState phase (abandonStore p s) = { State.reset with
    pending := s.pending, phase := phase, resetCause := s.resetCause
    chans := (resetState phase (abandonStore p s)).chans
    stby := SlowLine.atReset s.stby.line, lowsup := SlowLine.atReset s.lowsup.line
    slotA := (abandonStore p s).slotA, slotB := (abandonStore p s).slotB, freeCount := (abandonStore p s).freeCount } := by
  rw [abandonStore_frame]
  rfl

theorem exec_of_reset {i : Instr} {phase : PowerPhase} (h : i = Instr.powerOnReset p ∧ phase = PowerPhase.held .powerOn
      ∨ i = .pinReset p ∧ s.phase = .released ∧ phase = .held .pin ∨ i = .powerLoss p ∧ phase = .unpowered) :
    exec i s = .next (resetState phase (abandonStore p s)) := by
  rcases h with ⟨rfl, rfl⟩ | ⟨rfl, hr, rfl⟩ | ⟨rfl, rfl⟩
  · rfl
  · change execPinReset p s = _
    unfold execPinReset
    rw [hr]
  · rfl

theorem abandonSave_of_unmatched {stage : SaveStage} (h : stage ≠ .finalMatched) (buffer : Image) (target : SlotId)
    (generation : Word16) :
    abandonSave stage buffer target generation s = spoil target (decide (stage ∈ [SaveStage.program, .verify])) s := by
  cases stage with
  | finalMatched => exact absurd rfl h
  | snapshot | erase | program | verify | finalWrite | eraseAfterFailure => rfl

/-- What a slot that is left invalid reads, and that the other one is untouched (R187). -/
theorem spoil_slots (target : SlotId) (erasedWell : Bool) :
    let t := spoil target erasedWell s
    let slot := if target = .a then t.slotA else t.slotB
    (if target = .a then t.slotB = s.slotB else t.slotA = s.slotA)
      ∧ slot.valid = false ∧ t.freeCount = s.freeCount + 1
      ∧ slot.generation = (if erasedWell then 0xFFFF else Config.interruptedGeneration s.freeCount) := by
  cases target <;> exact ⟨rfl, Slot.valid_of_no_match rfl, rfl, rfl⟩

/-- What an abandoned save leaves of the slots (R193). -/
theorem abandonSave_slots (stage : SaveStage) (buffer : Image) (target : SlotId) (generation : Word16) :
    let t := abandonSave stage buffer target generation s
    let slot := if target = .a then t.slotA else t.slotB
    (if target = .a then t.slotB = s.slotB else t.slotA = s.slotA)
      ∧ if stage = .finalMatched then
          slot = { generation := generation, image := buffer, checkMatches := true } ∧ t.freeCount = s.freeCount
        else slot.valid = false ∧ t.freeCount = s.freeCount + 1
          ∧ slot.generation =
            (if stage ∈ [SaveStage.program, .verify] then 0xFFFF else Config.interruptedGeneration s.freeCount) := by
  by_cases h : stage = .finalMatched
  · subst h
    cases target <;> exact ⟨rfl, rfl, rfl⟩
  · dsimp only
    rw [abandonSave_of_unmatched h, if_neg h]
    simpa only [decide_eq_true_eq] using spoil_slots (s := s) target (decide (stage ∈ [SaveStage.program, .verify]))

/-- Settles O59: the slots by what was in flight, everything else the reset state. -/
theorem resetsAbandonEverything : Obligations.ResetsAbandonEverything := by
  unfold Obligations.ResetsAbandonEverything
  intro p s
  refine ⟨fun i phase h => ⟨_, exec_of_reset h, resetState_abandonStore_chan s p phase, ?_, ?_, fun hsave herase => ?_,
    fun buffer target generation hu => ?_, fun hu => ?_, ?_⟩, fun h => ?_, fun cause h => ?_, fun h => ?_⟩
  · rw [resetState_eq]
    rfl
  · rw [resetState_eq]
    rfl
  · rw [abandonStore_of_idle hsave herase]
    exact ⟨rfl, rfl, rfl⟩
  · rw [abandonStore_of_save hu]
    exact abandonSave_slots p.save buffer target generation
  · rw [abandonStore_of_erase hu]
    obtain ⟨save, erase⟩ := p
    cases erase
    · exact ⟨rfl, fun _ => ⟨rfl, Slot.valid_of_no_match rfl, rfl⟩, nofun⟩
    · exact ⟨rfl, nofun, fun _ => ⟨rfl, Slot.valid_of_no_match rfl, rfl⟩⟩
  · exact (resetState_eq s p phase).trans (by rw [abandonStore_frame]; rfl)
  · change execPinReset p s = _
    unfold execPinReset
    split
    next hr => exact absurd hr h
    next => rfl
    next => rfl
  · change execResetRelease s = _
    unfold execResetRelease
    rw [h]
  · change execResetRelease s = _
    unfold execResetRelease
    split
    next cause hc => exact absurd hc (h cause)
    next => rfl
    next => rfl

end Sys2Proof.Machine
end

section
/-! SUPPORT. The boot load, step by step (R191), for O60. -/

namespace Sys2Proof.Machine

/-! ## Step 5: presence -/

/-- The channels that attach at once where their filtered DET is high: their debounce is 0 (R134). -/
def Image.undebounced (img : Image) (cs : List Chan) : List Chan := cs.filter fun c => (img.channels[c]).debounce == 0

/-- What a channel that attaches hands over. -/
def Image.attaching (img : Image) (cs : List Chan) : List Instr :=
  (cs.filter img.acting).map fun c => Instr.autoRequest (img.servedLoad c)

def Image.attachNotices (img : Image) (cs : List Chan) : List Notice :=
  (cs.filter fun c => (img.channels[c]).detect != .manual).map Notice.attach

theorem Image.undebounced_cons (img : Image) (c : Chan) (cs : List Chan) :
    img.undebounced (c :: cs) = img.undebounced [c] ++ img.undebounced cs := List.filter_append [c] cs

theorem Image.attaching_append (img : Image) (cs ds : List Chan) :
    img.attaching (cs ++ ds) = img.attaching cs ++ img.attaching ds := by
  simp [Image.attaching]

theorem Image.attachNotices_append (img : Image) (cs ds : List Chan) :
    img.attachNotices (cs ++ ds) = img.attachNotices cs ++ img.attachNotices ds := by
  simp [Image.attachNotices]

theorem Image.attaching_singleton (img : Image) (c : Chan) :
    img.attaching [c] = if img.acting c then [.autoRequest (img.servedLoad c)] else [] := by
  unfold Image.attaching
  cases h : img.acting c <;> simp [h]

theorem Image.actingFilter_singleton (img : Image) (c : Chan) :
    ([c].filter img.acting).map DetectSource.change = if img.acting c then [.change c] else [] := by
  cases h : img.acting c <;> simp [h]

theorem Image.attachNotices_singleton (img : Image) (c : Chan) :
    img.attachNotices [c] = if (img.channels[c]).detect = .manual then [] else [.attach c] := by
  unfold Image.attachNotices
  cases h : (img.channels[c]).detect <;> simp [show (img.channels[c.val]).detect = _ from h]

theorem debounce_eq {c : Chan} {s : State} (hdet : (s.chan c).det = true) (hpresent : (s.chan c).present = false) :
    debounce c s = { s with
      chans := (debounce c s).chans
      posted := s.posted ++ s.config.attaching (s.config.undebounced [c])
      sources := s.sources ++ ((s.config.undebounced [c]).filter s.config.acting).map DetectSource.change
      fifo := s.fifoAfter (s.config.attachNotices (s.config.undebounced [c])) } := by
  have hne : (s.chan c).det ≠ (s.chan c).present := by simp [hdet, hpresent]
  have hself : s.setChan c (s.chan c) = s := State.setChan_self s c
  have hcase : debounce c s = if (s.chanConfig c).debounce = 0 then settlePresence c s
      else s.setChan c { s.chan c with debounce := .running (s.chanConfig c).debounce.toNat } := by
    unfold debounce
    exact if_neg hne
  by_cases h0 : (s.chanConfig c).debounce = 0
  · have hone : s.config.undebounced [c] = [c] := List.filter_cons_of_pos (beq_iff_eq.mpr h0)
    have hsettled := settlePresence_setChan_eq (c := c) (s := s) (s.chan c) hne
    rw [hself] at hsettled
    rw [hcase, if_pos h0, hsettled, hone, Image.attaching_singleton, Image.actingFilter_singleton,
      Image.attachNotices_singleton, hdet]
    rfl
  · have hnone : s.config.undebounced [c] = [] := List.filter_cons_of_neg fun h => h0 (beq_iff_eq.mp h)
    rw [hcase, if_neg h0, hnone]
    simp [Image.attaching, Image.attachNotices, State.fifoAfter, State.setChan]

/-- Channels with DET high that have not attached yet start their debounce, or attach at once, one after another (R142). -/
theorem foldl_debounce_eq {cs : List Chan} {s : State} (hn : cs.Nodup)
    (hcs : ∀ c ∈ cs, (s.chan c).det = true ∧ (s.chan c).present = false) :
    cs.foldl (fun t c => debounce c t) s = { s with
      chans := (cs.foldl (fun t c => debounce c t) s).chans
      posted := s.posted ++ s.config.attaching (s.config.undebounced cs)
      sources := s.sources ++ ((s.config.undebounced cs).filter s.config.acting).map DetectSource.change
      fifo := s.fifoAfter (s.config.attachNotices (s.config.undebounced cs)) } := by
  induction cs generalizing s with
  | nil => simp [Image.undebounced, Image.attaching, Image.attachNotices, State.fifoAfter]
  | cons c cs ih =>
    obtain ⟨hnot, hn⟩ := List.nodup_cons.mp hn
    have hstep := debounce_eq (hcs c List.mem_cons_self).1 (hcs c List.mem_cons_self).2
    have hrest := ih (s := debounce c s) hn fun d hd => by
      rw [debounce_chan, if_neg (show ¬ c = d from fun h => hnot (h ▸ hd))]
      exact hcs d (List.mem_cons_of_mem _ hd)
    rw [List.foldl_cons, hrest, hstep, Image.undebounced_cons _ c cs, Image.attaching_append, Image.attachNotices_append,
      fifoAfter_append, List.filter_append, List.map_append, ← List.append_assoc, ← List.append_assoc]
    rfl

theorem foldl_debounce_chan {cs : List Chan} (s : State) (hn : cs.Nodup) (d : Chan) :
    (cs.foldl (fun t c => debounce c t) s).chan d =
      if d ∈ cs then (s.chan d).debounced (s.chanConfig d).debounce else s.chan d := by
  induction cs generalizing s with
  | nil => rfl
  | cons c cs ih =>
    obtain ⟨hnot, hn⟩ := List.nodup_cons.mp hn
    have hconfig : (debounce c s).chanConfig d = s.chanConfig d := by
      obtain ⟨_, _, _, _, h⟩ := debounce_changes c s
      rw [h]
      rfl
    rw [List.foldl_cons, ih (debounce c s) hn, debounce_chan, hconfig]
    by_cases h : c = d
    · subst h
      rw [if_pos rfl, if_neg hnot, if_pos List.mem_cons_self]
    · rw [if_neg h]
      simp [Ne.symm h]

theorem nodup_allChans : allChans.Nodup := by decide

/-! ## Steps 1 to 4 -/

theorem bootSource_eq (s : State) : bootSource s =
    if s.slotA.valid = true ∧ (s.slotB.valid = true → s.slotB.generation.toNat ≤ s.slotA.generation.toNat) then .slotA
    else if s.slotB.valid = true then .slotB else .defaults := by
  unfold bootSource
  cases s.slotA.valid <;> cases s.slotB.valid <;> simp
  split
  next h => rw [if_neg (Nat.not_le.mpr h)]
  next h => rw [if_pos (Nat.not_lt.mp h)]

theorem bootStore_eq (s : State) : bootStore s =
    { s with
      config := bootImage s (bootSource s), active := bootActive (bootSource s)
      shown := { s.slotInfo with active := bootActive (bootSource s) }
      fifo := ({ s with config := bootImage s (bootSource s) } : State).fifoAfter [.boot (bootSource s)] } := by
  unfold bootStore
  rw [handOver_eq]
  rfl

theorem bootArbiter_load (s : State) (l : Load) : (bootArbiter s).load l = startLoad s.config l := Vector.getElem_ofFn _

/-- A load at the end of the boot load is offered exactly where it is IDLE (R21). -/
theorem startLoad_idle_iff (img : Image) (l : Load) : ((startLoad img l).state == .idle) = img.offered l := by
  cases h : img.offered l with
  | false =>
    rw [startLoad_of_not_offered h]
    split <;> rfl
  | true =>
    rw [startLoad_of_offered h]
    rfl

/-- What the detect unit makes of a part whose channels are set up, channel by channel (R142). -/
theorem bootDetect_eq {s : State} (h : ∀ c, (s.chan c).present = false) :
    bootDetect s = { s with
      chans := (bootDetect s).chans
      posted := s.posted ++ s.config.attaching (s.config.undebounced (allChans.filter fun c => (s.chan c).det))
      sources := s.sources ++ ((s.config.undebounced (allChans.filter fun c => (s.chan c).det)).filter
        s.config.acting).map DetectSource.change
      fifo := s.fifoAfter (s.config.attachNotices (s.config.undebounced (allChans.filter fun c => (s.chan c).det))) } :=
  foldl_debounce_eq (nodup_allChans.filter _) fun c hc => ⟨(List.mem_filter.mp hc).2, h c⟩

theorem bootDetect_chan (s : State) (c : Chan) : (bootDetect s).chan c =
    if (s.chan c).det = true then (s.chan c).debounced (s.chanConfig c).debounce else s.chan c := by
  refine (foldl_debounce_chan s (nodup_allChans.filter _) c).trans (if_congr ?_ rfl rfl)
  simp [mem_allChans]

theorem undebounced_filter (img : Image) (p : Chan → Bool) :
    img.undebounced (allChans.filter p) = allChans.filter fun c => p c && (img.channels[c]).debounce == 0 := by
  simp only [Image.undebounced, List.filter_filter, Bool.and_comm]

/-- A channel at the end of the boot load (R42, R61, R133, R142). -/
theorem started_debounced (ch : Channel) (ms : Byte) :
    (if ch.started.det = true then ch.started.debounced ms else ch.started) =
      { Channel.atReset ch.pgLine ch.fltLine ch.detLine with
        pg := ch.pgLine, flt := ch.fltLine, det := ch.detLine
        present := ch.detLine && ms == 0
        debounce := if ch.detLine && ms != 0 then .running ms.toNat else .stopped } := by
  unfold Channel.debounced Channel.started Channel.atReset
  cases ch.detLine with
  | false => rfl
  | true =>
    by_cases h : ms = 0
    · subst h
      rfl
    · have heq : (ms == 0) = false := beq_eq_false_iff_ne.mpr h
      rw [if_pos rfl, if_neg (show ¬ true = false from nofun), if_neg h, bne, heq]
      rfl

/-- The loads that are requested at boot are the offered ones with boot-on set (R191). -/
theorem bootLoads_eq {s : State} (h : ∀ l, s.load l = startLoad s.config l) :
    bootLoads s = allLoads.filter fun l => (s.config.loads[l]).bootOn && s.config.offered l := by
  unfold bootLoads
  congr
  funext l
  rw [h, startLoad_idle_iff]
  rfl

/-- The channels that attach at the boot load: DET is high and their debounce is 0. -/
def State.attachedAtBoot (s : State) (img : Image) : List Chan :=
  allChans.filter fun c => (s.chan c).detLine && (img.channels[c]).debounce == 0

theorem endBoot_eq (s : State) : endBoot s =
    let img := bootImage s (bootSource s)
    let attached := s.attachedAtBoot img
    { s with
      config := img
      active := bootActive (bootSource s)
      shown := { s.slotInfo with active := bootActive (bootSource s) }
      unit := .ready
      fifo := ({ s with config := img } : State).fifoAfter (.boot (bootSource s) :: img.attachNotices attached)
      chans := (bootDetect (bootArbiter (bootStore s))).chans
      loads := Vector.ofFn fun l => startLoad img l
      stby := s.stby.started
      lowsup := s.lowsup.started
      ceiling := if s.lowsup.line then img.reduced else img.full
      descent := if s.stby.line && !s.halted then .seeking else .inactive
      posted := s.posted ++ img.attaching attached
        ++ (allLoads.filter fun l => (img.loads[l]).bootOn && img.offered l).map Instr.bootRequest
      sources := s.sources ++ (attached.filter img.acting).map DetectSource.change } := by
  dsimp only
  have hconfig : (bootArbiter (bootStore s)).config = bootImage s (bootSource s) := by
    rw [bootStore_eq]
    rfl
  have hchan (c : Chan) : (bootArbiter (bootStore s)).chan c = (s.chan c).started := by
    rw [bootArbiter_chan, bootStore_eq]
    rfl
  have hattached : (bootImage s (bootSource s)).undebounced
      (allChans.filter fun c => ((bootArbiter (bootStore s)).chan c).det) = s.attachedAtBoot (bootImage s (bootSource s)) := by
    simp only [hchan, undebounced_filter]
    rfl
  have hdetect := bootDetect_eq (s := bootArbiter (bootStore s)) fun c => by rw [hchan]; rfl
  rw [hconfig, hattached] at hdetect
  have hload (l : Load) : (bootDetect (bootArbiter (bootStore s))).load l =
      startLoad (bootDetect (bootArbiter (bootStore s))).config l := by
    have hsame : (bootDetect (bootArbiter (bootStore s))).load l = (bootArbiter (bootStore s)).load l := by
      rw [hdetect]
      rfl
    have hsameConfig : (bootDetect (bootArbiter (bootStore s))).config = (bootStore s).config := by
      rw [hdetect, ← hconfig]
      rfl
    rw [hsame, hsameConfig]
    exact bootArbiter_load _ _
  unfold endBoot
  dsimp only
  have hready : (bootDetect (bootArbiter (bootStore s))).config = bootImage s (bootSource s) := by
    rw [hdetect]
  rw [bootLoads_eq hload, hready]
  rw [hdetect]
  have hfifo : (bootArbiter (bootStore s)).fifoAfter
      ((bootImage s (bootSource s)).attachNotices (s.attachedAtBoot (bootImage s (bootSource s)))) =
      ({ s with config := bootImage s (bootSource s) } : State).fifoAfter
        (.boot (bootSource s) :: (bootImage s (bootSource s)).attachNotices (s.attachedAtBoot (bootImage s (bootSource s)))) := by
    rw [bootStore_eq]
    exact (fifoAfter_append { s with config := bootImage s (bootSource s) } [.boot (bootSource s)] _).symm
  rw [hfifo]
  generalize (bootDetect (bootArbiter (bootStore s))).chans = chans
  rw [bootStore_eq]
  rfl

/-- Settles O60: store, arbiter, detect unit and command unit in turn. -/
theorem bootLoadStartsThePart : Obligations.BootLoadStartsThePart := by
  unfold Obligations.BootLoadStartsThePart
  intro s hr hu src img
  have hsrc : src = bootSource s := (bootSource_eq s).symm
  have himg : img = bootImage s src := rfl
  clear_value img src
  subst himg hsrc
  have hexec : exec .bootLoadEnd s = .next (endBoot s) := by
    refine congrArg Host.Outcome.next (if_pos ?_)
    simp [State.booting, State.released, hr, hu, UnitState.isBooting]
  rw [endBoot_eq] at hexec
  refine ⟨_, s.attachedAtBoot (bootImage s (bootSource s)), hexec, rfl, rfl, rfl, rfl, rfl, rfl, fun c => ?_, fun l => ?_, rfl, rfl, rfl,
    rfl, rfl, rfl, rfl⟩
  · have hconfig : (bootArbiter (bootStore s)).chanConfig c = (bootImage s (bootSource s)).channels[c] := by
      rw [bootStore_eq]
      rfl
    have hchan : (bootArbiter (bootStore s)).chan c = (s.chan c).started := by
      rw [bootArbiter_chan, bootStore_eq]
      rfl
    have hreset : State.reset.chan c = Channel.atReset false false false := Vector.getElem_replicate _
    refine (bootDetect_chan _ c).trans ?_
    rw [hconfig, hchan, started_debounced, hreset]
    rfl
  · refine (Vector.getElem_ofFn _).trans ?_
    unfold startLoad
    split <;> rfl

end Sys2Proof.Machine
end

section
/-! SUPPORT. ERASE_PROFILES and REVERT, for O51. -/

namespace Sys2Proof.Machine

theorem Slot.erased_valid : Slot.erased.valid = false := Slot.valid_of_no_match rfl

theorem endErase_of_erasing {s : State} (h : s.unit = .executing .erase) : endErase s =
    completeLong .done (showSlots { s with slotA := Slot.erased, slotB := Slot.erased, active := none }) := by
  unfold endErase
  rw [h]

theorem revertSource_eq (s : State) : revertSource s =
    if s.active = some .a ∧ s.slotA.valid = true then (s.slotA.image, some .a)
    else if s.active = some .b ∧ s.slotB.valid = true then (s.slotB.image, some .b)
    else (Image.factory, none) := by
  unfold revertSource
  cases s.active with
  | none => rfl
  | some id => cases id <;> simp [State.slot] <;> rfl

theorem Served.revertSource_eq {s t : State} (h : Served s t) : revertSource t = revertSource s := by
  unfold revertSource State.slot
  rw [h.frame]

theorem regroupLoad_eq (img : Image) (l : Load) (r : LoadRun) : regroupLoad img l r =
    if img.offered l = false then .fresh (if l.val < 8 then .absorbed else .void)
    else if r.state = .absorbed ∨ r.state = .void then .fresh .idle
    else r := by
  obtain ⟨state, attempts, cooling, stable⟩ := r
  unfold regroupLoad
  cases img.offered l with
  | false => rfl
  | true => cases state <;> rfl

theorem requestFor_eq (img : Image) : (fun i (_ : DetectSource) => requestFor (fun l => !img.offered l) i) =
    fun i _ => decide (∃ l : Load, img.offered l = false ∧ i = .autoRequest l) := by
  funext i _
  rw [Bool.eq_iff_iff]
  cases i <;> simp [requestFor]

theorem isReturn_eq : (fun i (_ : DetectSource) => isReturn i) = fun i _ => decide (∃ l : Load, i = .returnReport l) := by
  funext i _
  rw [Bool.eq_iff_iff]
  cases i <;> simp [isReturn]

/-- The part once a REVERT has reloaded the configuration and its command has completed. -/
theorem reloaded_eq (u : State) : completeLong .done (showSlots (reloadConfig u)) = { u with
    config := (revertSource u).1
    active := (revertSource u).2
    loads := Vector.ofFn fun l => regroupLoad (revertSource u).1 l (u.load l)
    resume := u.resume.filter (revertSource u).1.offered
    ceiling := if u.lowsup.filtered then (revertSource u).1.reduced else (revertSource u).1.full
    shown := { u.slotInfo with active := (revertSource u).2 }
    result := .done
    cmdDone := true
    unit := .ready } := by
  unfold completeLong complete showSlots reloadConfig State.slotInfo State.ceilingNow
  dsimp only

theorem endRevert_of_reverting {s : State} (h : s.unit = .executing .revert) : endRevert s =
    let u := settleFor (fun i _ => requestFor (fun l => !(revertSource s).1.offered l) i) (settleFor (fun i _ => isReturn i) s)
    (allChans.filter fun c => !u.config.acting c).foldl (represent .revert) (completeLong .done (showSlots (reloadConfig u))) := by
  unfold endRevert
  rw [h]

/-- Settles O51: the takes, the erase, and the reload after what goes before it. -/
theorem eraseAndRevert : Obligations.EraseAndRevert := by
  unfold Obligations.EraseAndRevert
  refine fun s => ⟨fun hc => ⟨?_, fun hh h0 => ?_, fun h => ?_⟩, fun hphase hunit => ?_, fun hphase hunit => ?_⟩
  · exact longCommand_of_takesCommands (start := fun _ => .inr .erase) hc
  · have htake := longCommand_of_takesCommands (code := 0x32)
      (start := fun t => if t.halted ∧ t.committed = 0 then .inr .revert else .inl .state) hc
    rw [if_pos (show (s.taken 0x32).halted = true ∧ (s.taken 0x32).committed = 0 from ⟨hh, h0⟩)] at htake
    exact htake
  · have htake := longCommand_of_takesCommands (code := 0x32)
      (start := fun t => if t.halted ∧ t.committed = 0 then .inr .revert else .inl .state) hc
    have hno : ¬((s.taken 0x32).halted = true ∧ (s.taken 0x32).committed = 0) := by
      rintro ⟨hh, h0⟩
      rcases h with h | h
      · exact Bool.false_ne_true (h.symm.trans hh)
      · exact h h0
    rw [if_neg hno] at htake
    exact htake
  · have hrun : s.running = true := (running_iff s).mpr ⟨hphase, by rw [hunit]; rfl⟩
    refine ⟨_, takeEvent_alone hrun rfl (endErase_of_erasing (s := s.without _) hunit), rfl, Slot.erased_valid, rfl,
      Slot.erased_valid, rfl, rfl, rfl⟩
  · have hrun : s.running = true := (running_iff s).mpr ⟨hphase, by rw [hunit]; rfl⟩
    intro source u newly
    have hsource : source = revertSource (s.without .revertCompletion) := (revertSource_eq (s.without .revertCompletion)).symm
    have hu : u = settleFor (fun i _ => requestFor (fun l => !source.1.offered l) i)
        (settleFor (fun i _ => isReturn i) (s.without .revertCompletion)) := by
      rw [requestFor_eq, isReturn_eq]
      rfl
    have hserved : Served (s.without .revertCompletion) u := by
      rw [hu]
      exact (settleFor_served _ _).trans (settleFor_served _ _)
    have hsame : revertSource u = source := hserved.revertSource_eq.trans hsource.symm
    have hexec := takeEvent_alone hrun rfl (endRevert_of_reverting (s := s.without .revertCompletion) hunit)
    dsimp only at hexec
    rw [← hsource, ← hu, reloaded_eq, hsame, foldl_represent, State.flatMap_representing, List.filter_filter] at hexec
    have hnewly : newly = allChans.filter fun c => (source.1.acting c && (u.chan c).present) && !u.config.acting c :=
      List.filter_congr fun c _ => by rw [Bool.and_assoc, Bool.and_comm]
    clear_value newly u source
    subst hnewly
    refine ⟨_, hexec, rfl, fun l => ?_, rfl, rfl, rfl, ?_, rfl, rfl⟩
    · exact (Vector.getElem_ofFn l.isLt).trans (regroupLoad_eq _ _ _)
    · dsimp only
      rw [List.map_map]
      rfl

end Sys2Proof.Machine
end

section
/-! SUPPORT. The checks and the effects of a DATA write, field by field (R178 to R182), for O56. -/

namespace Sys2Proof.Machine

/-! ## The values of the fields -/

section
variable {v : Byte}

theorem boolOfByte_isSome : (boolOfByte v).isSome = true ↔ v = 0 ∨ v = 1 := by
  unfold boolOfByte
  split_ifs <;> simp_all

theorem boolOfByte_getD (h : v = 0 ∨ v = 1) (b : Bool) : (boolOfByte v).getD b = (v == 1) := by
  rcases h with rfl | rfl <;> rfl

theorem polarityOfByte_isSome : (polarityOfByte v).isSome = true ↔ v = 0 ∨ v = 1 := by
  unfold polarityOfByte
  split_ifs <;> simp_all

theorem polarityOfByte_getD (h : v = 0 ∨ v = 1) (p : Polarity) :
    (polarityOfByte v).getD p = if v = 0 then .activeHigh else .activeLow := by
  rcases h with rfl | rfl <;> rfl

theorem toNat_le_two : v.toNat ≤ 2 ↔ v = 0 ∨ v = 1 ∨ v = 2 := by
  constructor
  · intro h
    bv_omega
  · rintro (rfl | rfl | rfl) <;> decide

theorem detectOfByte_isSome : (detectOfByte v).isSome = true ↔ v.toNat ≤ 2 := by
  rw [toNat_le_two]
  unfold detectOfByte
  split_ifs <;> simp_all

theorem detectOfByte_getD (h : v.toNat ≤ 2) (m : DetectMode) :
    (detectOfByte v).getD m = if v = 0 then .manual else if v = 1 then .notify else .auto := by
  rcases toNat_le_two.mp h with rfl | rfl | rfl <;> rfl

theorem finOfByte_eq_none {n : Nat} : finOfByte n v = none ↔ n ≤ v.toNat := by
  unfold finOfByte
  split <;> simp <;> omega

theorem finOfByte_getD {n : Nat} [NeZero n] (h : v.toNat < n) (k : Fin n) : (finOfByte n v).getD k = Fin.ofNat n v.toNat := by
  have hsome : finOfByte n v = some ⟨v.toNat, h⟩ := finOfByte_eq_some_iff.mpr rfl
  rw [hsome]
  exact Fin.ext (Nat.mod_eq_of_lt h).symm

end

/-! ## Who may write, and the order of the checks -/

theorem mem_allLoads (l : Load) : l ∈ allLoads := by
  revert l
  decide

section
variable {s : State}

theorem chanWritable_iff {c : Chan} :
    chanWritable s c = true ↔ (s.load (s.config.servedLoad c)).state ∈ [LoadState.idle, .locked] := by
  unfold chanWritable
  cases (s.load (s.config.servedLoad c)).state <;> simp [LoadState.idleOrLocked]

theorem loadWritable_iff {l : Load} :
    loadWritable s l = true ↔ (s.load l).state ∈ [LoadState.idle, .locked, .absorbed, .void] := by
  unfold loadWritable
  cases (s.load l).state <;> simp

theorem groupWritable_iff {g : Group} :
    groupWritable s g = true ↔ (s.load (groupLoad g)).state ∈ [LoadState.idle, .locked, .void] := by
  unfold groupWritable
  cases (s.load (groupLoad g)).state <;> simp

theorem checkWrite_of_loading {loc : Location} {v : Byte} (h : s.loading = true) : checkWrite s loc v = some .booting := if_pos h

/-- Out of the boot load and of a REVERT, a byte that exists and is not read-only is judged by its own checks (R181). -/
theorem checkWrite_eq {loc : Location} {v : Byte} (h : s.loading = false) (hloc : loc ≠ .undefined) (hro : loc.readOnly = false) :
    checkWrite s loc v = checkField s loc v := by
  unfold checkWrite
  rw [h, hro, if_neg Bool.false_ne_true, if_neg hloc, if_neg Bool.false_ne_true]

theorem checkWrite_of_readOnly {loc : Location} {v : Byte} (h : s.loading = false) (hloc : loc ≠ .undefined)
    (hro : loc.readOnly = true) : checkWrite s loc v = some .readOnly := by
  unfold checkWrite
  rw [h, hro, if_neg Bool.false_ne_true, if_neg hloc, if_pos rfl]

theorem checkWrite_of_undefined {v : Byte} (h : s.loading = false) : checkWrite s .undefined v = some .undefined := by
  unfold checkWrite
  rw [h, if_neg Bool.false_ne_true, if_pos rfl]

theorem checkField_chan_of_closed {c : Chan} {f : ChanField} {v : Byte}
    (h : (s.load (s.config.servedLoad c)).state ∉ [LoadState.idle, .locked]) : checkField s (.chan c f) v = some .state := by
  simp only [checkField, Bool.eq_false_iff.mpr (mt chanWritable_iff.mp h), Bool.not_false, if_true]

theorem checkField_chan_of_open {c : Chan} {f : ChanField} {v : Byte}
    (h : (s.load (s.config.servedLoad c)).state ∈ [LoadState.idle, .locked]) :
    checkField s (.chan c f) v = if chanValueOk f v = true then none else some .range := by
  simp only [checkField, chanWritable_iff.mpr h]
  cases chanValueOk f v <;> rfl

theorem checkField_load_of_closed {l : Load} {f : LoadField} {v : Byte}
    (h : (s.load l).state ∉ [LoadState.idle, .locked, .absorbed, .void]) : checkField s (.load l f) v = some .state := by
  simp only [checkField, Bool.eq_false_iff.mpr (mt loadWritable_iff.mp h), Bool.not_false, if_true]

theorem checkField_load_of_open {l : Load} {f : LoadField} {v : Byte}
    (h : (s.load l).state ∈ [LoadState.idle, .locked, .absorbed, .void]) : checkField s (.load l f) v =
      if loadValueOk f v = true then if f = .parent then checkParent s l v else none else some .range := by
  simp only [checkField, loadWritable_iff.mpr h]
  cases loadValueOk f v <;> rfl

theorem checkField_group (g : Group) (v : Byte) : checkField s (.stagger g) v =
    if (s.load (groupLoad g)).state ∈ [LoadState.idle, .locked, .void] then none else some .state :=
  if_congr groupWritable_iff rfl rfl

theorem checkField_slot_of_none (g : Group) (k : Slot8) : checkField s (.slot g k) 0xFF =
    if (s.load (groupLoad g)).state ∈ [LoadState.idle, .locked, .void] then none else some .state := by
  simp only [checkField, if_true]
  exact if_congr groupWritable_iff rfl rfl

/-- The checks of a channel written into a slot, in their order (R63). -/
theorem checkMember_of_chan {g : Group} {k : Slot8} {v : Byte} {c : Chan} (hv : v.toNat = c.val)
    (hk : k.val ≤ (s.config.membersOf g).length) : checkMember s g k v =
      if (s.load (groupLoad g)).state ∉ [LoadState.idle, .locked, .void] then some .state
      else if (s.config.membersOf g)[k.val]? = some c then none
      else if ∃ h : Group, c ∈ s.config.membersOf h then some .duplicate
      else if (s.load (ownLoad c)).state ≠ .idle then some .state
      else if ∃ x : Load, (s.loadConfig x).parent = some (ownLoad c) then some .inUse
      else none := by
  have hclosed : (!groupWritable s g) = true ↔ (s.load (groupLoad g)).state ∉ [LoadState.idle, .locked, .void] := by
    rw [Bool.not_eq_true', ← groupWritable_iff, Bool.not_eq_true]
  have hnamed : (allLoads.any fun l => (s.loadConfig l).parent == some (ownLoad c)) = true ↔
      ∃ x : Load, (s.loadConfig x).parent = some (ownLoad c) :=
    List.any_eq_true.trans ⟨fun ⟨x, _, h⟩ => ⟨x, beq_iff_eq.mp h⟩, fun ⟨x, h⟩ => ⟨x, mem_allLoads x, beq_iff_eq.mpr h⟩⟩
  unfold checkMember
  rw [finOfByte_eq_some_iff.mpr hv]
  dsimp only
  rw [if_neg (Nat.not_lt.mpr hk)]
  exact if_congr hclosed rfl (if_congr Iff.rfl rfl (if_congr Image.groupOf_isSome rfl (if_congr Iff.rfl rfl
    (if_congr hnamed rfl rfl))))

theorem checkMember_of_range {g : Group} {k : Slot8} {v : Byte} (h : 8 ≤ v.toNat ∨ (s.config.membersOf g).length < k.val) :
    checkMember s g k v = some .range := by
  unfold checkMember
  cases hv : finOfByte 8 v with
  | none => rfl
  | some c =>
    have hlt := c.isLt
    have htoNat := finOfByte_eq_some_iff.mp hv
    exact if_pos (h.resolve_left (by omega))

/-! ## The parent relation -/

/-- Following parent fields, n steps from a load (R66). -/
theorem mem_parentChain {fuel : Nat} {l p : Load} : l ∈ parentChain s fuel p ↔
    ∃ n < fuel, (fun x : Option Load => x.bind fun y => (s.loadConfig y).parent)^[n] (some p) = some l := by
  induction fuel generalizing p with
  | zero => simp [parentChain]
  | succ fuel ih =>
    have hnone (n : Nat) : (fun x : Option Load => x.bind fun y => (s.loadConfig y).parent)^[n] none = none :=
      Function.iterate_fixed rfl n
    have hstart : (∃ n < fuel + 1, (fun x : Option Load => x.bind fun y => (s.loadConfig y).parent)^[n] (some p) = some l) ↔
        p = l ∨ ∃ n < fuel, (fun x : Option Load => x.bind fun y => (s.loadConfig y).parent)^[n] (s.loadConfig p).parent = some l := by
      constructor
      · rintro ⟨n, hn, h⟩
        cases n with
        | zero => exact .inl (Option.some.inj h)
        | succ n => exact .inr ⟨n, Nat.lt_of_succ_lt_succ hn, h⟩
      · rintro (rfl | ⟨n, hn, h⟩)
        · exact ⟨0, Nat.succ_pos _, rfl⟩
        · exact ⟨n + 1, Nat.succ_lt_succ hn, h⟩
    rw [hstart]
    unfold parentChain
    cases hparent : (s.loadConfig p).parent with
    | none => simp [hnone, eq_comm]
    | some q =>
      rw [List.mem_cons, ih]
      exact or_congr eq_comm Iff.rfl

theorem checkParent_of_none {l : Load} {v : Byte} (h : 12 ≤ v.toNat) : checkParent s l v = none := by
  unfold checkParent
  rw [finOfByte_eq_none.mpr h]

theorem checkParent_of_load {l p : Load} {v : Byte} (h : v.toNat = p.val) : checkParent s l v =
    if p = l then some .cycle
    else if (s.load p).state = .absorbed then some .inUse
    else if l ∈ parentChain s 13 p then some .cycle
    else none := by
  unfold checkParent
  rw [finOfByte_eq_some_iff.mpr h]
  exact if_congr Iff.rfl rfl (if_congr Iff.rfl rfl (if_congr List.contains_iff_mem rfl rfl))

theorem loadValueOk_parent {v : Byte} : loadValueOk .parent v = true ↔ v = 0xFF ∨ v.toNat < 12 := by
  unfold loadValueOk parentOfByte
  dsimp only
  split
  next h => simp [h]
  next h =>
    rw [or_iff_right h, Option.isSome_map, Option.isSome_iff_ne_none, ne_eq, finOfByte_eq_none, not_le]

end

end Sys2Proof.Machine
end

section
/-! SUPPORT. What an accepted DATA write does, and what DATA reads back (R139, R140, R175, R181); O56. -/

namespace Sys2Proof.Machine

/-- The state after a write of the configuration that asks for some loads. -/
def State.configured (u : State) (img : Image) (asked : List Instr) : State :=
  { u with config := img, posted := u.posted ++ asked, sources := u.sources ++ asked.map fun _ => .asked }

theorem State.configured_nil (u : State) (img : Image) : u.configured img [] = { u with config := img } := by
  simp [State.configured]

/-! ## The detect mode -/

theorem Image.acting_iff {img : Image} {c : Chan} : img.acting c = true ↔
    (img.channels[c]).detect = .auto ∧ ∀ g, img.groupOf c = some g → (img.groups[g]).members.head? = some c := by
  unfold Image.acting
  cases h : img.groupOf c with
  | none => simp
  | some g => simp

/-- The configuration after a write to a channel record. -/
abbrev Image.withChan (img : Image) (c : Chan) (r : ChannelConfig) : Image := { img with channels := img.channels.set c r }

/-- A channel that would ask for its load under AUTO: it stands alone, or it is the lead (R92). -/
abbrev Image.Leads (img : Image) (c : Chan) : Prop := ∀ g, img.groupOf c = some g → (img.groups[g]).members.head? = some c

theorem Image.withChan_acting_iff {img : Image} {c : Chan} {r : ChannelConfig} :
    (img.withChan c r).acting c = true ↔ r.detect = .auto ∧ img.Leads c := by
  have hself : ((img.withChan c r).channels[c]) = r := Vector.getElem_set_self _
  rw [Image.acting_iff, hself]
  rfl

section
variable {u : State} {c : Chan} {v : Byte}

theorem writeChan_detect_eq : writeChan c .detect v u =
    if (detectOfByte v).getD (u.chanConfig c).detect = .auto ∧ (u.chanConfig c).detect ≠ .auto then
      represent .asked (setChanConfig c { u.chanConfig c with detect := (detectOfByte v).getD (u.chanConfig c).detect } u) c
    else setChanConfig c { u.chanConfig c with detect := (detectOfByte v).getD (u.chanConfig c).detect } u := rfl

/-- A channel that AUTO finds present and leading is asked for (R139, R140). -/
theorem represent_setChanConfig {r : ChannelConfig} (hauto : r.detect = .auto) (hpresent : (u.chan c).present = true)
    (hleads : u.config.Leads c) : represent .asked (setChanConfig c r u) c =
      u.configured (u.config.withChan c r) [.autoRequest (u.config.servedLoad c)] := by
  have hacting : (setChanConfig c r u).config.acting c = true := Image.withChan_acting_iff.mpr ⟨hauto, hleads⟩
  have hrep : (setChanConfig c r u).representing c = [.autoRequest (u.config.servedLoad c)] := by
    refine if_pos ?_
    rw [hacting]
    exact hpresent
  rw [represent_eq, hrep]
  rfl

theorem represent_setChanConfig_silent {r : ChannelConfig} (h : (u.chan c).present = false ∨ ¬u.config.Leads c) :
    represent .asked (setChanConfig c r u) c = setChanConfig c r u := by
  refine if_neg fun hand => ?_
  obtain ⟨hacting, hpresent⟩ := Bool.and_eq_true_iff.mp hand
  rcases h with h | h
  · exact Bool.false_ne_true (h.symm.trans hpresent)
  · exact h (Image.withChan_acting_iff.mp hacting).2

end

/-! ## The slots -/

section
variable {u : State} {g : Group} {k : Slot8} {c : Chan}

/-- The member list after a channel has been written into a slot that it reaches (R63). -/
theorem placed_eq {ms : List Chan} {k : Nat} (h : k ≤ ms.length) : placed ms k c = ms.take k ++ c :: ms.drop (k + 1) := by
  unfold placed
  split
  next hlt => rw [List.set_eq_take_append_cons_drop, if_pos hlt]
  next hge =>
    have hlen : k = ms.length := by omega
    rw [hlen, List.take_length, List.drop_eq_nil_of_le (Nat.le_succ _)]

theorem joined_eq (h : k.val ≤ (u.config.membersOf g).length) : joined u g k c =
    { u with
      config := { u.config with groups := u.config.groups.set g { u.config.groups[g] with
        members := (u.config.membersOf g).take k.val ++ c :: (u.config.membersOf g).drop (k.val + 1) } }
      loads := Vector.ofFn (joinedLoad u g k c)
      resume := u.resume.filter (· != ownLoad c) } := by
  have hplaced := placed_eq (c := c) h
  unfold placed at hplaced
  rw [← hplaced]
  rfl

/-- A channel that was in no group belongs to the one it is written into. -/
theorem joined_groupOf (hout : ∀ h, c ∉ u.config.membersOf h) : (joined u g k c).config.groupOf c = some g := by
  have hmem (h : Group) : c ∈ (joined u g k c).config.membersOf h ↔ h = g := by
    rw [joined_membersOf]
    split
    next hh => exact iff_of_true mem_placed_self hh
    next hh => exact iff_of_false (hout h) hh
  cases hgroup : (joined u g k c).config.groupOf c with
  | none => exact absurd ((hmem g).mpr rfl) (Image.groupOf_eq_none.mp hgroup g)
  | some h =>
    have hfound := List.find?_some hgroup
    rw [(hmem h).mp (List.contains_iff_mem.mp hfound)]

/-- A channel written into slot 0 leads its group, and is asked for where it is present under AUTO (R138). -/
theorem represent_joined (hk : k.val = 0) (hout : ∀ h, c ∉ u.config.membersOf h) :
    represent .asked (joined u g k c) c = { joined u g k c with
      posted := u.posted ++ if (u.chanConfig c).detect == .auto && (u.chan c).present then [.autoRequest (groupLoad g)] else []
      sources := u.sources ++ if (u.chanConfig c).detect == .auto && (u.chan c).present then [.asked] else [] } := by
  have hgroup := joined_groupOf (g := g) (k := k) hout
  have hserved : (joined u g k c).config.servedLoad c = groupLoad g := by
    unfold Image.servedLoad
    rw [hgroup]
  have hmembers : (joined u g k c).config.membersOf g = c :: (u.config.membersOf g).drop 1 := by
    rw [joined_membersOf, if_pos rfl, hk, placed_eq (Nat.zero_le _)]
    rfl
  have hacting : (joined u g k c).config.acting c = ((u.chanConfig c).detect == .auto) := by
    rw [Bool.eq_iff_iff, Image.acting_iff, beq_iff_eq]
    refine and_iff_left fun h hh => ?_
    cases hgroup.symm.trans hh
    exact congrArg List.head? hmembers
  have hrep : (joined u g k c).representing c =
      if (u.chanConfig c).detect == .auto && (u.chan c).present then [.autoRequest (groupLoad g)] else [] := by
    unfold State.representing
    rw [hacting, hserved]
    rfl
  rw [represent_eq, hrep]
  split <;> rfl

end

end Sys2Proof.Machine
end

section
/-! SUPPORT. A DATA write as a whole (R181, R182), for O56. -/

namespace Sys2Proof.Machine

/-! ## What a write leaves as it was -/

/-- What an accepted write can change. -/
def WriteFrame (s t : State) : Prop := t = { s with
  config := t.config, loads := t.loads, resume := t.resume, wrej := t.wrej, posted := t.posted, sources := t.sources }

theorem represent_writeFrame (source : DetectSource) {s t : State} (c : Chan) (h : WriteFrame s t) :
    WriteFrame s (represent source t c) := by
  unfold WriteFrame at h ⊢
  rw [represent_eq, h]

theorem applyWrite_frame (loc : Location) (v : Byte) (s : State) : WriteFrame s (applyWrite loc v s) := by
  cases loc with
  | chan c f =>
    cases f with
    | detect =>
      simp only [applyWrite, writeChan]
      split
      · exact represent_writeFrame _ _ rfl
      · rfl
    | _ => rfl
  | load l f => cases f <;> rfl
  | slot g k =>
    simp only [applyWrite]
    split
    next c _ =>
      by_cases hsame : (s.config.groups[g]).members[k.val]? = some c
      · simp only [writeMember, hsame, if_true]
        rfl
      · rw [writeMember_eq hsame]
        split
        · exact represent_writeFrame _ _ rfl
        · rfl
    next =>
      by_cases hlen : k.val < (s.config.groups[g]).members.length
      · rw [truncateMembers_eq hlen]
        rfl
      · simp only [truncateMembers, Nat.not_lt.mp hlen, if_true]
        rfl
  | wrej =>
    simp only [applyWrite]
    split <;> rfl
  | _ => rfl

section
variable {v : Byte} {s : State}

theorem settleForWrite_index : (settleForWrite v s).index = s.index := by rw [(settleForWrite_served v s).frame]

theorem settleForWrite_loading : (settleForWrite v s).loading = s.loading := by
  unfold State.loading State.released
  rw [(settleForWrite_served v s).frame]

/-- A write that a check refuses sets WREJ and moves the index on (R182). -/
theorem exec_dataWrite_of_refused (hp : s.phase = .released) {reason : Reason}
    (h : checkWrite (settleForWrite v s) (locate s.index) v = some reason) :
    exec (.dataWrite v) s = .next { settleForWrite v s with
      wrej := true, rejIndex := s.index, rejReason := reason, index := s.index + 1 } := by
  have hexec : exec (.dataWrite v) s = .next (writeData v s) := strobe_of_released (act := fun t => writeData v t) hp
  rw [hexec]
  unfold writeData
  dsimp only
  rw [settleForWrite_index, h]
  dsimp only [advanceIndex, refuseWrite]
  rw [settleForWrite_index]

/-- A write whose checks pass has its effect and moves the index on (R175). -/
theorem exec_dataWrite_of_accepted (hp : s.phase = .released)
    (h : checkWrite (settleForWrite v s) (locate s.index) v = none) :
    exec (.dataWrite v) s = .next { applyWrite (locate s.index) v (settleForWrite v s) with index := s.index + 1 } := by
  have hexec : exec (.dataWrite v) s = .next (writeData v s) := strobe_of_released (act := fun t => writeData v t) hp
  have hindex : (applyWrite (locate s.index) v (settleForWrite v s)).index = s.index := by
    rw [applyWrite_frame (locate s.index) v (settleForWrite v s)]
    exact settleForWrite_index
  rw [hexec]
  unfold writeData
  dsimp only
  rw [settleForWrite_index, h]
  dsimp only [advanceIndex]
  rw [hindex]

end

/-! ## The mask -/

section
variable (mask : BitVec 12) (v : Byte)

theorem maskLow_write : (mask &&& 0xF00#12) ||| v.setWidth 12 = BitVec.ofNat 12 (mask.toNat / 256 * 256 + v.toNat) := by
  refine BitVec.eq_of_getLsbD_eq fun i hi => ?_
  have hsum : (mask.toNat / 256 * 256 + v.toNat).testBit i = if i < 8 then v.getLsbD i else mask.getLsbD i := by
    rw [Nat.mul_comm]
    refine (Nat.testBit_two_pow_mul_add _ v.isLt i).trans (ite_congr rfl (fun _ => rfl) fun h => ?_)
    exact (Nat.testBit_div_two_pow (n := 8) _ _).trans (congrArg mask.toNat.testBit (Nat.sub_add_cancel (Nat.not_lt.mp h)))
  rw [BitVec.getLsbD_ofNat, hsum]
  interval_cases i <;> simp

theorem maskHigh_write :
    (mask &&& 0x0FF#12) ||| (v.setWidth 12 <<< 8) = BitVec.ofNat 12 (v.toNat * 256 + mask.toNat % 256) := by
  refine BitVec.eq_of_getLsbD_eq fun i hi => ?_
  have hlow : mask.toNat % 256 < 2 ^ 8 := Nat.mod_lt _ (by decide)
  have hsum : (v.toNat * 256 + mask.toNat % 256).testBit i = if i < 8 then mask.getLsbD i else v.getLsbD (i - 8) := by
    rw [Nat.mul_comm]
    refine (Nat.testBit_two_pow_mul_add _ hlow i).trans (ite_congr rfl (fun h => ?_) fun _ => rfl)
    refine (Nat.testBit_mod_two_pow _ 8 i).trans ?_
    rw [decide_eq_true h]
    rfl
  rw [BitVec.getLsbD_ofNat, hsum]
  interval_cases i <;> simp

/-- The mask's bytes read back (R180). -/
theorem maskLow_reads_back : ((mask &&& 0xF00#12) ||| v.setWidth 12).setWidth 8 = v := by
  rw [maskLow_write, maskLow_eq, BitVec.toNat_ofNat]
  refine BitVec.eq_of_toNat_eq ?_
  have hv := v.isLt
  rw [BitVec.toNat_ofNat]
  omega

theorem maskHigh_reads_back (h : v.toNat < 16) :
    (((mask &&& 0x0FF#12) ||| (v.setWidth 12 <<< 8)) >>> 8).setWidth 8 = v := by
  rw [maskHigh_write, maskHigh_eq, BitVec.toNat_ofNat]
  refine BitVec.eq_of_toNat_eq ?_
  rw [BitVec.toNat_ofNat]
  omega

end

/-! ## Reading back -/

section
variable {v : Byte}

theorem numberByte_of_toNat {n : Nat} {k : Fin n} (h : v.toNat = k.val) : numberByte (some k) = v := by
  refine BitVec.eq_of_toNat_eq ?_
  have hv := v.isLt
  change (BitVec.ofNat 8 k.val).toNat = v.toNat
  rw [BitVec.toNat_ofNat]
  omega

/-- An accepted field of a channel record reads back (R178). -/
theorem writeChan_reads_back (c : Chan) {f : ChanField} (u : State) (h : chanValueOk f v = true) :
    (writeChan c f v u).config.chanByte c f = v := by
  have hself (r : ChannelConfig) : ((u.config.channels.set c r)[c]) = r := Vector.getElem_set_self _
  have hbool {b : Bool} (hok : v = 0 ∨ v = 1) : boolByte ((boolOfByte v).getD b) = v := by
    rcases hok with rfl | rfl <;> rfl
  cases f with
  | enabled =>
    refine (congrArg (fun r => boolByte r.enabled) (hself _)).trans ?_
    exact hbool (boolOfByte_isSome.mp h)
  | claim => exact congrArg ChannelConfig.claim (hself _)
  | rampTimeout => exact congrArg ChannelConfig.rampTimeout (hself _)
  | dischargeTime => exact congrArg ChannelConfig.dischargeTime (hself _)
  | debounce => exact congrArg ChannelConfig.debounce (hself _)
  | detect =>
    have hconfig : (writeChan c .detect v u).config = (setChanConfig c
        { u.chanConfig c with detect := (detectOfByte v).getD (u.chanConfig c).detect } u).config := by
      rw [writeChan_detect_eq]
      split
      · rw [represent_eq]
      · rfl
    rw [hconfig]
    refine (congrArg (fun r => detectByte r.detect) (hself _)).trans ?_
    rcases toNat_le_two.mp (detectOfByte_isSome.mp h) with rfl | rfl | rfl <;> rfl
  | polarity =>
    refine (congrArg (fun r => polarityByte r.polarity) (hself _)).trans ?_
    rcases polarityOfByte_isSome.mp h with rfl | rfl <;> rfl
  | group | rank => cases h

theorem flagsByte_eq (h : v.toNat < 16) (r : LoadConfig) : ({ r with
    bootOn := v.getLsbD 0, requeueAfterShed := v.getLsbD 1, keepInStandby := v.getLsbD 2
    resumeAfterStandby := v.getLsbD 3 } : LoadConfig).flagsByte = v := by
  obtain ⟨n, hn⟩ : ∃ n, v.toNat = n := ⟨_, rfl⟩
  obtain rfl : v = BitVec.ofNat 8 n := by rw [← hn, BitVec.ofNat_toNat, BitVec.setWidth_eq]
  have hlt : n < 16 := hn ▸ h
  clear hn h
  interval_cases n <;> rfl

/-- An accepted field of a load record reads back (R179). -/
theorem writeLoad_reads_back (l : Load) {f : LoadField} (u : State) (h : loadValueOk f v = true) :
    (writeLoad l f v u).config.loadByte l f = v := by
  have hself (r : LoadConfig) : ((u.config.loads.set l r)[l]) = r := Vector.getElem_set_self _
  have hnumber {k : Fin 8} (hv : v.toNat < 8) : BitVec.ofNat 8 ((finOfByte 8 v).getD k).val = v := by
    rw [finOfByte_eq_some_iff.mpr (show v.toNat = (⟨v.toNat, hv⟩ : Fin 8).val from rfl)]
    exact numberByte_of_toNat (k := ⟨v.toNat, hv⟩) rfl
  cases f with
  | priority =>
    refine (congrArg (fun r => BitVec.ofNat 8 r.priority.val) (hself _)).trans ?_
    exact hnumber (of_decide_eq_true h)
  | parent =>
    refine (congrArg (fun r => numberByte r.parent) (hself _)).trans ?_
    rcases loadValueOk_parent.mp h with rfl | hv
    · rfl
    · have hne : v ≠ 0xFF := by
        rintro rfl
        exact absurd hv (by decide)
      have hparent : parentOfByte v = some (some ⟨v.toNat, hv⟩) := by
        unfold parentOfByte
        rw [if_neg hne, finOfByte_eq_some_iff.mpr (show v.toNat = (⟨v.toNat, hv⟩ : Fin 12).val from rfl)]
        rfl
      dsimp only
      rw [hparent]
      exact numberByte_of_toNat (k := ⟨v.toNat, hv⟩) rfl
  | retryLimit =>
    refine (congrArg (fun r => BitVec.ofNat 8 r.retryLimit.val) (hself _)).trans ?_
    exact hnumber (of_decide_eq_true h)
  | coolDownBase => exact congrArg LoadConfig.coolDownBase (hself _)
  | stableTime => exact congrArg LoadConfig.stableTime (hself _)
  | flags => exact (congrArg LoadConfig.flagsByte (hself _)).trans (flagsByte_eq (of_decide_eq_true h) _)
  | claimLow | claimHigh => cases h

end

end Sys2Proof.Machine
end

section
/-! O56: a DATA write, location by location. -/

namespace Sys2Proof.Machine

section
variable {u : State} {v : Byte}

theorem accepted_of_checkWrite {loc : Location} (h : checkWrite u loc v = none) :
    u.loading = false ∧ loc ≠ .undefined ∧ loc.readOnly = false ∧ checkField u loc v = none := by
  obtain ⟨hloading, hfield⟩ := checkField_of_checkWrite h
  have hloc : loc ≠ .undefined := by
    rintro rfl
    rw [checkWrite_of_undefined hloading] at h
    cases h
  refine ⟨hloading, hloc, Bool.eq_false_iff.mpr fun hro => ?_, hfield⟩
  rw [checkWrite_of_readOnly hloading hloc hro] at h
  cases h

theorem placed_getElem? {ms : List Chan} {k : Nat} {c : Chan} (h : k ≤ ms.length) : (placed ms k c)[k]? = some c := by
  rw [placed_eq h, List.getElem?_append_right (by simp), List.length_take, Nat.min_eq_left h, Nat.sub_self]
  rfl

theorem writeMember_membersOf {g : Group} {k : Slot8} {c : Chan} (h : k.val ≤ (u.config.membersOf g).length) :
    ((writeMember g k c u).config.membersOf g)[k.val]? = some c := by
  by_cases hsame : (u.config.groups[g]).members[k.val]? = some c
  · simp only [writeMember, hsame, if_true]
  · have hconfig : (writeMember g k c u).config = (joined u g k c).config := by
      rw [writeMember_eq hsame]
      split
      · rw [represent_eq]
      · rfl
    rw [hconfig, joined_membersOf, if_pos rfl]
    exact placed_getElem? h

theorem truncateMembers_membersOf (g : Group) (k : Slot8) :
    ((truncateMembers g k u).config.membersOf g)[k.val]? = none := by
  by_cases hlen : k.val < (u.config.groups[g]).members.length
  · rw [truncateMembers_eq hlen, truncated_membersOf, if_pos rfl]
    simp
  · have hle := Nat.not_lt.mp hlen
    simp only [truncateMembers, hle, if_true]
    exact List.getElem?_eq_none hle

/-- A slot into which none is written is empty (R64). -/
theorem applyWrite_slot_of_none (g : Group) (k : Slot8) : applyWrite (.slot g k) 0xFF u = truncateMembers g k u := rfl

theorem applyWrite_slot_of_chan {g : Group} {k : Slot8} {c : Chan} (h : v.toNat = c.val) :
    applyWrite (.slot g k) v u = writeMember g k c u := by
  simp only [applyWrite, finOfByte_eq_some_iff.mpr h]

/-- An accepted write of a slot names a channel within reach, or none (R63). -/
theorem slot_value_of_accepted {g : Group} {k : Slot8} (h : checkField u (.slot g k) v = none) :
    v = 0xFF ∨ ∃ c : Chan, v.toNat = c.val ∧ k.val ≤ (u.config.membersOf g).length := by
  by_cases hv : v = 0xFF
  · exact .inl hv
  · have hmember : checkMember u g k v = none := (if_neg hv).symm.trans h
    have hlt : v.toNat < 8 := by
      by_contra hge
      rw [checkMember_of_range (.inl (Nat.not_lt.mp hge))] at hmember
      cases hmember
    refine .inr ⟨⟨v.toNat, hlt⟩, rfl, ?_⟩
    by_contra hlen
    rw [checkMember_of_range (.inr (Nat.not_le.mp hlen))] at hmember
    cases hmember

theorem value_of_chan_accepted {c : Chan} {f : ChanField} (h : checkField u (.chan c f) v = none) : chanValueOk f v = true := by
  by_cases hopen : (u.load (u.config.servedLoad c)).state ∈ [LoadState.idle, .locked]
  · rw [checkField_chan_of_open hopen] at h
    by_contra hv
    rw [if_neg hv] at h
    cases h
  · rw [checkField_chan_of_closed hopen] at h
    cases h

theorem value_of_load_accepted {l : Load} {f : LoadField} (h : checkField u (.load l f) v = none) : loadValueOk f v = true := by
  by_cases hopen : (u.load l).state ∈ [LoadState.idle, .locked, .absorbed, .void]
  · rw [checkField_load_of_open hopen] at h
    by_contra hv
    rw [if_neg hv] at h
    cases h
  · rw [checkField_load_of_closed hopen] at h
    cases h

/-- What an accepted write leaves at its place reads back, but WREJ, whose 1 clears it (R175, R182). -/
theorem applyWrite_reads_back {loc : Location} (h : checkWrite u loc v = none) (hloc : loc ≠ .wrej) :
    (applyWrite loc v u).locationByte loc = v := by
  obtain ⟨-, hundefined, hro, hfield⟩ := accepted_of_checkWrite h
  cases loc with
  | undefined => exact absurd rfl hundefined
  | wrej => exact absurd rfl hloc
  | info _ | memberCount _ | fullLow | fullHigh | reducedLow | reducedHigh | overtake | view _ => cases hro
  | chan c f => exact writeChan_reads_back c u (value_of_chan_accepted hfield)
  | load l f => exact writeLoad_reads_back l u (value_of_load_accepted hfield)
  | slot g k =>
    change numberByte (((applyWrite (.slot g k) v u).config.membersOf g)[k.val]?) = v
    rcases slot_value_of_accepted hfield with rfl | ⟨c, hv, hk⟩
    · rw [applyWrite_slot_of_none, truncateMembers_membersOf]
      rfl
    · rw [applyWrite_slot_of_chan hv, writeMember_membersOf hk]
      exact numberByte_of_toNat hv
  | stagger g => exact congrArg GroupConfig.stagger (Vector.getElem_set_self _)
  | spacing => rfl
  | maskLow => exact maskLow_reads_back _ _
  | maskHigh =>
    refine maskHigh_reads_back _ _ ?_
    by_contra hge
    exact absurd ((if_neg hge).symm.trans hfield) nofun

/-- WREJ stands at 0010h only (R177). -/
theorem locate_ne_wrej {index : Word16} (h : index ≠ 0x0010) : locate index ≠ .wrej := by
  have hn : index.toNat ≠ 0x10 := fun heq => h (BitVec.eq_of_toNat_eq heq)
  unfold locate
  dsimp only
  split_ifs
  · unfold infoAt
    rw [if_neg hn]
    split <;> nofun
  · unfold chanAt
    split
    · split <;> nofun
    · nofun
  · unfold loadAt
    split
    · split <;> nofun
    · nofun
  · unfold groupAt
    split_ifs <;> nofun
  · unfold globalAt
    split <;> nofun
  · nofun
  · nofun

end

/-! ## The verdict, location by location -/

section
variable {u : State} {v : Byte} {refused : Reason → Prop} {ends : State → Prop}

/-- A field of a channel record: the state of the load served, the value, and the effect (R45, R178, R181). -/
theorem chanField_verdict (hload : u.loading = false) {c : Chan} {f : ChanField} (hf : (Location.chan c f).readOnly = false)
    (hrefused : ∀ reason, checkWrite u (.chan c f) v = some reason → refused reason)
    (hends : checkWrite u (.chan c f) v = none → ends (applyWrite (.chan c f) v u))
    {ok : Prop} {r : ChannelConfig} {asked : List Instr} (hok : chanValueOk f v = true ↔ ok)
    (hx : ok → writeChan c f v u = u.configured (u.config.withChan c r) asked) :
    ((u.load (u.config.servedLoad c)).state ∉ [LoadState.idle, .locked] → refused .state)
      ∧ ((u.load (u.config.servedLoad c)).state ∈ [LoadState.idle, .locked] →
        (¬ok → refused .range) ∧ (ok → ends (u.configured (u.config.withChan c r) asked))) := by
  have hcheck : checkWrite u (.chan c f) v = checkField u (.chan c f) v := checkWrite_eq hload nofun hf
  refine ⟨fun hclosed => hrefused _ (hcheck.trans (checkField_chan_of_closed hclosed)), fun hopen => ⟨fun hno => ?_, fun hyes => ?_⟩⟩
  · exact hrefused _ (hcheck.trans ((checkField_chan_of_open hopen).trans (if_neg (mt hok.mp hno))))
  · rw [← hx hyes]
    exact hends (hcheck.trans ((checkField_chan_of_open hopen).trans (if_pos (hok.mpr hyes))))

/-- A field of a load record other than the parent (R2, R179, R181). -/
theorem loadField_verdict (hload : u.loading = false) {l : Load} {f : LoadField} (hf : (Location.load l f).readOnly = false)
    (hrefused : ∀ reason, checkWrite u (.load l f) v = some reason → refused reason)
    (hends : checkWrite u (.load l f) v = none → ends (applyWrite (.load l f) v u))
    {ok : Prop} {r : LoadConfig} (hok : loadValueOk f v = true ↔ ok) (hparent : ok → f = .parent → checkParent u l v = none)
    (hx : ok → writeLoad l f v u = setLoadConfig l r u) :
    ((u.load l).state ∉ [LoadState.idle, .locked, .absorbed, .void] → refused .state)
      ∧ ((u.load l).state ∈ [LoadState.idle, .locked, .absorbed, .void] →
        (¬ok → refused .range) ∧ (ok → ends (setLoadConfig l r u))) := by
  have hcheck : checkWrite u (.load l f) v = checkField u (.load l f) v := checkWrite_eq hload nofun hf
  refine ⟨fun hclosed => hrefused _ (hcheck.trans (checkField_load_of_closed hclosed)), fun hopen => ⟨fun hno => ?_, fun hyes => ?_⟩⟩
  · exact hrefused _ (hcheck.trans ((checkField_load_of_open hopen).trans (if_neg (mt hok.mp hno))))
  · rw [← hx hyes]
    refine hends (hcheck.trans ((checkField_load_of_open hopen).trans ((if_pos (hok.mpr hyes)).trans ?_)))
    split
    next hf => exact hparent hyes hf
    next => rfl

end

section
variable {u : State} {c : Chan} {v : Byte}

/-- A detect mode that asks for nothing: no change to AUTO, or nothing that an attach would have asked for (R139). -/
theorem writeChan_detect_silent (h : v.toNat ≤ 2)
    (hno : v ≠ 2 ∨ (u.chanConfig c).detect = .auto ∨ (u.chan c).present = false ∨ ¬u.config.Leads c) :
    writeChan c .detect v u = setChanConfig c { u.chanConfig c with
      detect := if v = 0 then .manual else if v = 1 then .notify else .auto } u := by
  rcases toNat_le_two.mp h with rfl | rfl | rfl
  · rfl
  · rfl
  · by_cases hold : (u.chanConfig c).detect = .auto
    · exact if_neg fun hand => hand.2 hold
    · exact (if_pos ⟨rfl, hold⟩).trans (represent_setChanConfig_silent ((hno.resolve_left (not_not.mpr rfl)).resolve_left hold))

/-- AUTO written to a channel that is present and leads (R139, R140). -/
theorem writeChan_detect_asked (h2 : v = 2) (hmode : (u.chanConfig c).detect ≠ .auto) (hpresent : (u.chan c).present = true)
    (hleads : u.config.Leads c) : writeChan c .detect v u =
      u.configured (u.config.withChan c { u.chanConfig c with detect := .auto }) [.autoRequest (u.config.servedLoad c)] := by
  subst h2
  exact (if_pos ⟨rfl, hmode⟩).trans (represent_setChanConfig rfl hpresent hleads)

theorem applyWrite_parent {l p : Load} (h : v.toNat = p.val) :
    applyWrite (.load l .parent) v u = setLoadConfig l { u.loadConfig l with parent := some p } u := by
  have hne : v ≠ 0xFF := by
    rintro rfl
    exact absurd (h ▸ p.isLt) (by decide)
  have hparent : parentOfByte v = some (some p) := by
    unfold parentOfByte
    rw [if_neg hne, finOfByte_eq_some_iff.mpr h]
    rfl
  simp only [applyWrite, writeLoad, hparent, Option.getD_some]

theorem writeMember_of_same {g : Group} {k : Slot8} (h : (u.config.membersOf g)[k.val]? = some c) : writeMember g k c u = u :=
  if_pos h

/-- A channel that stands in no group is written into a slot within reach (R5, R63, R138). -/
theorem writeMember_eq_joined {g : Group} {k : Slot8} (hk : k.val ≤ (u.config.membersOf g).length)
    (hother : (u.config.membersOf g)[k.val]? ≠ some c) (hout : ∀ h, c ∉ u.config.membersOf h) :
    let asks : Bool := k.val == 0 && (u.chanConfig c).detect == .auto && (u.chan c).present
    writeMember g k c u = { u with
      config := { u.config with groups := u.config.groups.set g { u.config.groups[g] with
        members := (u.config.membersOf g).take k.val ++ c :: (u.config.membersOf g).drop (k.val + 1) } }
      loads := Vector.ofFn (joinedLoad u g k c)
      resume := u.resume.filter (· != ownLoad c)
      posted := u.posted ++ (if asks then [.autoRequest (groupLoad g)] else [])
      sources := u.sources ++ (if asks then [.asked] else []) } := by
  intro asks
  rw [writeMember_eq hother]
  by_cases h0 : k.val = 0
  · have hasks : asks = ((u.chanConfig c).detect == .auto && (u.chan c).present) := by
      simp only [asks, h0, beq_self_eq_true, Bool.true_and]
    rw [if_pos h0, represent_joined h0 hout, joined_eq hk, hasks]
  · have hasks : asks = false := by
      simp only [asks, beq_eq_false_iff_ne.mpr h0, Bool.false_and]
    rw [if_neg h0, joined_eq hk, hasks]
    simp

theorem truncateMembers_of_short {g : Group} {k : Slot8} (h : (u.config.groups[g]).members.length ≤ k.val) :
    truncateMembers g k u = u := if_pos h

theorem locationByte_withIndex (s : State) (index : Word16) (loc : Location) :
    ({ s with index := index } : State).locationByte loc = s.locationByte loc := by
  cases loc <;> rfl

end

/-- Settles O56: the checks in their order, the effect of what passes them, and the byte read back. -/
theorem dataWriteIsRefusedOrReadsBack : Obligations.DataWriteIsRefusedOrReadsBack := by
  unfold Obligations.DataWriteIsRefusedOrReadsBack
  intro v s hp u ends refused configured chanField loadField groupIs closed fresh
  have hloading : u.loading = s.loading := settleForWrite_loading
  have hrefused (reason : Reason) (h : checkWrite u (locate s.index) v = some reason) : refused reason :=
    exec_dataWrite_of_refused hp h
  have hends (h : checkWrite u (locate s.index) v = none) : ends (applyWrite (locate s.index) v u) :=
    exec_dataWrite_of_accepted hp h
  refine ⟨fun hl => hrefused _ (checkWrite_of_loading (hloading.trans hl)), fun hl => ?_, fun hc hne => ?_⟩
  · have hl : u.loading = false := hloading.trans hl
    generalize locate s.index = loc at hrefused hends
    cases loc with
    | undefined => exact hrefused _ (checkWrite_of_undefined hl)
    | info _ | memberCount _ | fullLow | fullHigh | reducedLow | reducedHigh | overtake | view _ =>
      exact hrefused _ (checkWrite_of_readOnly hl nofun rfl)
    | wrej => exact hends (checkWrite_eq hl nofun rfl)
    | spacing => exact hends (checkWrite_eq hl nofun rfl)
    | maskLow =>
      dsimp only
      rw [← maskLow_write]
      exact hends (checkWrite_eq hl nofun rfl)
    | maskHigh =>
      refine ⟨fun hge => ?_, fun hlt => ?_⟩
      · exact hrefused _ ((checkWrite_eq (loc := .maskHigh) hl nofun rfl).trans (if_neg (Nat.not_lt.mpr hge)))
      · rw [← maskHigh_write]
        exact hends ((checkWrite_eq (loc := .maskHigh) hl nofun rfl).trans (if_pos hlt))
    | chan c f =>
      have hsilent (r : ChannelConfig) : setChanConfig c r u = u.configured (u.config.withChan c r) [] :=
        (State.configured_nil u _).symm
      cases f with
      | enabled =>
        refine chanField_verdict hl rfl hrefused hends boolOfByte_isSome fun h => ?_
        rw [← boolOfByte_getD h (u.chanConfig c).enabled]
        exact hsilent _
      | claim => exact chanField_verdict hl rfl hrefused hends bne_iff_ne fun _ => hsilent _
      | rampTimeout => exact chanField_verdict hl rfl hrefused hends bne_iff_ne fun _ => hsilent _
      | dischargeTime => exact chanField_verdict hl rfl hrefused hends bne_iff_ne fun _ => hsilent _
      | debounce => exact chanField_verdict hl rfl hrefused hends (iff_of_true rfl trivial) fun _ => hsilent _
      | polarity =>
        refine chanField_verdict hl rfl hrefused hends polarityOfByte_isSome fun h => ?_
        rw [← polarityOfByte_getD h (u.chanConfig c).polarity]
        exact hsilent _
      | group | rank => exact hrefused _ (checkWrite_of_readOnly hl nofun rfl)
      | detect =>
        refine ⟨fun hno => ?_, fun h2 hmode hpresent hleads => ?_⟩
        · refine chanField_verdict hl rfl hrefused hends detectOfByte_isSome fun h => ?_
          exact (writeChan_detect_silent h hno).trans (hsilent _)
        · exact chanField_verdict hl rfl hrefused hends (iff_of_true (h2 ▸ rfl) trivial) fun _ =>
            writeChan_detect_asked h2 hmode hpresent hleads
    | load l f =>
      cases f with
      | priority =>
        refine loadField_verdict hl rfl hrefused hends decide_eq_true_iff (fun _ => nofun) fun h => ?_
        rw [← finOfByte_getD h (u.loadConfig l).priority]
        rfl
      | parent =>
        refine ⟨fun h12 => ?_, fun p hv => ?_⟩
        · refine loadField_verdict hl rfl hrefused hends (loadValueOk_parent.trans (or_iff_left (Nat.not_lt.mpr h12)))
            (fun _ _ => checkParent_of_none h12) fun h => ?_
          subst h
          rfl
        · have hchain : (∃ n, n ≤ 12 ∧ (fun x : Option Load => x.bind fun y => (u.loadConfig y).parent)^[n] (some p) = some l) ↔
              ∃ n < 13, (fun x : Option Load => x.bind fun y => (u.loadConfig y).parent)^[n] (some p) = some l :=
            exists_congr fun n => and_congr_left' Nat.lt_succ_iff.symm
          have hcheck : checkWrite u (.load l .parent) v = checkField u (.load l .parent) v := checkWrite_eq hl nofun rfl
          refine ⟨fun hclosed => hrefused _ (hcheck.trans (checkField_load_of_closed hclosed)), fun hopen => ?_⟩
          have hok : loadValueOk .parent v = true := loadValueOk_parent.mpr (.inr (hv ▸ p.isLt))
          have hparent := hcheck.trans ((checkField_load_of_open hopen).trans ((if_pos hok).trans ((if_pos rfl).trans
            (checkParent_of_load hv))))
          refine ⟨fun hp => ?_, fun hp hst => ?_, fun hp hst hleads => ?_, fun hp hst hleads => ?_⟩
          · exact hrefused _ (hparent.trans (if_pos hp))
          · exact hrefused _ (hparent.trans ((if_neg hp).trans (if_pos hst)))
          · exact hrefused _ (hparent.trans ((if_neg hp).trans ((if_neg hst).trans (if_pos (mem_parentChain.mpr (hchain.mp hleads))))))
          · have haccepted := hends (hparent.trans ((if_neg hp).trans ((if_neg hst).trans
              (if_neg (mt mem_parentChain.mp (mt hchain.mpr hleads))))))
            rw [applyWrite_parent hv] at haccepted
            exact haccepted
      | retryLimit =>
        refine loadField_verdict hl rfl hrefused hends decide_eq_true_iff (fun _ => nofun) fun h => ?_
        rw [← finOfByte_getD h (u.loadConfig l).retryLimit]
        rfl
      | coolDownBase => exact loadField_verdict hl rfl hrefused hends bne_iff_ne (fun _ => nofun) fun _ => rfl
      | stableTime => exact loadField_verdict hl rfl hrefused hends bne_iff_ne (fun _ => nofun) fun _ => rfl
      | flags => exact loadField_verdict hl rfl hrefused hends decide_eq_true_iff (fun _ => nofun) fun _ => rfl
      | claimLow | claimHigh => exact hrefused _ (checkWrite_of_readOnly hl nofun rfl)
    | stagger g =>
      have hcheck := (checkWrite_eq (v := v) hl (loc := .stagger g) nofun rfl).trans (checkField_group g v)
      refine ⟨fun hclosed => hrefused _ (hcheck.trans (if_neg hclosed)), fun hopen => ?_⟩
      exact hends (hcheck.trans (if_pos (not_not.mp hopen)))
    | slot g k =>
      have hcheck (w : Byte) : checkWrite u (.slot g k) w = checkField u (.slot g k) w := checkWrite_eq hl nofun rfl
      refine ⟨fun hv => ?_, fun hv hrange => ?_, fun c hv hk => ?_⟩
      · subst hv
        have hnone := (hcheck _).trans (checkField_slot_of_none g k)
        refine ⟨fun hclosed => hrefused _ (hnone.trans (if_neg hclosed)), fun hopen hlen => ?_, fun hopen hlen => ?_⟩
        · have haccepted := hends (hnone.trans (if_pos (not_not.mp hopen)))
          rw [applyWrite_slot_of_none, truncateMembers_of_short hlen] at haccepted
          exact haccepted
        · have haccepted := hends (hnone.trans (if_pos (not_not.mp hopen)))
          rw [applyWrite_slot_of_none, truncateMembers_eq hlen] at haccepted
          exact haccepted
      · exact hrefused _ ((hcheck v).trans ((if_neg hv).trans (checkMember_of_range hrange)))
      · intro elsewhere named asks
        have hne : v ≠ 0xFF := by
          rintro rfl
          exact absurd (hv ▸ c.isLt) (by decide)
        have hmember := (hcheck v).trans ((if_neg hne).trans (checkMember_of_chan hv hk))
        refine ⟨fun hclosed => hrefused _ (hmember.trans (if_pos hclosed)), fun hopen hsame => ?_, fun hopen hother => ?_⟩
        · have haccepted := hends (hmember.trans ((if_neg hopen).trans (if_pos hsame)))
          rw [applyWrite_slot_of_chan hv, writeMember_of_same hsame] at haccepted
          exact haccepted
        · have hother' := hmember.trans ((if_neg hopen).trans (if_neg hother))
          refine ⟨fun he => ?_, fun he hst => ?_, fun he hst hn => ?_, fun he hst hn => ?_⟩
          · exact hrefused _ (hother'.trans (if_pos he))
          · exact hrefused _ (hother'.trans ((if_neg he).trans (if_pos hst)))
          · exact hrefused _ (hother'.trans ((if_neg he).trans ((if_neg (not_not.mpr hst)).trans (if_pos hn))))
          · have haccepted := hends (hother'.trans ((if_neg he).trans ((if_neg (not_not.mpr hst)).trans (if_neg hn))))
            rw [applyWrite_slot_of_chan hv, writeMember_eq_joined hk hother fun h hc => he ⟨h, hc⟩] at haccepted
            exact haccepted
  · refine ⟨_, hends hc, ?_⟩
    have hreads := applyWrite_reads_back hc (locate_ne_wrej hne)
    have hl : State.loading { applyWrite (locate s.index) v u with index := s.index + 1 } = false := by
      rw [applyWrite_frame (locate s.index) v u]
      exact (accepted_of_checkWrite hc).1
    rw [State.dataByte_of_not_loading hl, locationByte_withIndex]
    exact hreads

end Sys2Proof.Machine
end

section
/-! SUPPORT. What the delivery of an event sends, and what it takes out of flight (log 2, log 20), for O21. -/

namespace Sys2Proof.Machine

/-- A step that leaves the events with a property in flight where they stood, sends nothing of the detect unit's, and so leaves its
sources alone. -/
structure Sends (P : Instr → Prop) (s t : State) : Prop where
  sources : t.sources = s.sources
  posted : ∃ r : Instr → Bool, ∃ new : List Instr, (∀ j, P j → r j = true) ∧ (∀ j ∈ new, fromDetect j = false)
    ∧ t.posted = s.posted.filter r ++ new

namespace Sends

variable {P : Instr → Prop} {s t u : State}

theorem of_eq (hp : t.posted = s.posted) (hx : t.sources = s.sources) : Sends P s t :=
  ⟨hx, fun _ => true, [], fun _ _ => rfl, nofun, by rw [hp, List.append_nil, List.filter_eq_self.mpr fun _ _ => rfl]⟩

theorem refl (s : State) : Sends P s s := of_eq rfl rfl

theorem trans (h : Sends P s t) (h' : Sends P t u) : Sends P s u := by
  obtain ⟨hx, r, new, hr, hnew, hp⟩ := h
  obtain ⟨hx', r', new', hr', hnew', hp'⟩ := h'
  refine ⟨hx'.trans hx, fun j => r j && r' j, new.filter r' ++ new', fun j hj => ?_, fun j hj => ?_, ?_⟩
  · exact Bool.and_eq_true_iff.mpr ⟨hr j hj, hr' j hj⟩
  · rcases List.mem_append.mp hj with hj | hj
    · exact hnew j (List.mem_of_mem_filter hj)
    · exact hnew' j hj
  · rw [hp', hp, List.filter_append, List.filter_filter, List.append_assoc]
    simp only [Bool.and_comm]

/-- A step that first changes nothing of what is in flight. -/
theorem after (h : Sends P u t) (hp : u.posted = s.posted) (hx : u.sources = s.sources) : Sends P s t :=
  (of_eq hp hx).trans h

theorem postAll {is : List Instr} (s : State) (h : ∀ j ∈ is, fromDetect j = false) : Sends P s (s.postAll is) :=
  ⟨rfl, fun _ => true, is, fun _ _ => rfl, h, by rw [List.filter_eq_self.mpr fun _ _ => rfl]; rfl⟩

theorem post {i : Instr} (s : State) (h : fromDetect i = false) : Sends P s (s.post i) :=
  postAll s fun _ hj => List.mem_singleton.mp hj ▸ h

theorem foldl {α : Type} {f : State → α → State} (hf : ∀ s a, Sends P s (f s a)) (as : List α) (s : State) :
    Sends P s (as.foldl f s) :=
  List.foldlRecOn (motive := fun t => Sends P s t) _ _ (refl s) fun t ht a _ => ht.trans (hf t a)

theorem handOver (n : Notice) (s : State) : Sends P s (handOver n s) := by
  rw [handOver_eq]
  exact of_eq rfl rfl

theorem noteMode (m : Mode) (s : State) : Sends P s (noteMode m s) := by
  unfold Machine.noteMode
  split
  · exact refl s
  · exact handOver _ s

end Sends

variable {P : Instr → Prop} (s : State)

/-! ## The channels -/

theorem channelFault_sends (c : Chan) (cause : FaultCause) : Sends P s (channelFault c cause s) :=
  .after ((Sends.handOver _ _).trans (.post _ rfl)) rfl rfl

theorem channelStart_sends (c : Chan) : Sends P s (channelStart c s) := by
  unfold channelStart
  dsimp only
  split
  case h_1 | h_2 =>
    split
    · exact channelFault_sends s c _
    · split
      · exact .after (.post _ rfl) rfl rfl
      · exact .of_eq rfl rfl
  all_goals exact .refl s

theorem channelWait_sends (c : Chan) : Sends P s (channelWait c s) := by
  unfold channelWait
  split <;> exact .of_eq rfl rfl

theorem channelFall_sends (c : Chan) : Sends P s (channelFall c s) := by
  unfold channelFall
  split <;> exact .of_eq rfl rfl

theorem channelCancel_sends (c : Chan) : Sends P s (channelCancel c s) := by
  unfold channelCancel
  split <;> exact .of_eq rfl rfl

/-! ## The load sequencer -/

theorem setRecord_sends (l : Load) (r : Option SeqRecord) : Sends P s (s.setRecord l r) := .of_eq rfl rfl

theorem fromDetect_of_map {α : Type} {f : α → Instr} (hf : ∀ a, fromDetect (f a) = false) (as : List α) :
    ∀ j ∈ as.map f, fromDetect j = false := by
  intro j hj
  obtain ⟨a, -, rfl⟩ := List.mem_map.mp hj
  exact hf a

theorem takeGrant_sends (l : Load) : Sends P s (takeGrant l s) := by
  unfold takeGrant
  dsimp only
  split
  · exact setRecord_sends s l _
  · refine (setRecord_sends s l _).trans (.postAll _ fun j hj => ?_)
    rcases List.mem_cons.mp hj with rfl | hj
    · rfl
    · exact fromDetect_of_map (fun _ => rfl) _ j hj

theorem startNext_sends (l : Load) (r : SeqRecord) : Sends P s (startNext l r s) := by
  unfold startNext
  split
  · exact setRecord_sends s l _
  · exact (setRecord_sends s l _).trans (.post _ rfl)

theorem takeChannelOn_sends (c : Chan) : Sends P s (takeChannelOn c s) := by
  unfold takeChannelOn
  dsimp only
  split
  · exact .refl s
  · split
    · split
      · exact (setRecord_sends s _ _).trans (.post _ rfl)
      · split
        · exact setRecord_sends s _ _
        · split
          · exact startNext_sends s _ _
          · exact setRecord_sends s _ _
    · exact .refl s

theorem lowerNext_sends (l : Load) (r : SeqRecord) : Sends P s (lowerNext l r s) := by
  unfold lowerNext
  dsimp only
  split <;> exact (setRecord_sends s _ _).trans (.post _ rfl)

theorem takeFallComplete_sends (c : Chan) : Sends P s (takeFallComplete c s) := by
  unfold takeFallComplete
  dsimp only
  split
  · exact .refl s
  · split
    · exact setRecord_sends s _ _
    · exact setRecord_sends s _ _
    · exact setRecord_sends s _ _
    · exact setRecord_sends s _ _
    · split
      · exact lowerNext_sends s _ _
      · exact setRecord_sends s _ _
    · split
      · exact (setRecord_sends s _ _).trans (.post _ rfl)
      · exact setRecord_sends s _ _

theorem takeOrderlyOrder_sends (l : Load) : Sends P s (takeOrderlyOrder l s) := by
  unfold takeOrderlyOrder
  split
  · exact .refl s
  · dsimp only
    have hcancel (cs : List Chan) : Sends P s (s.postAll (cs.map Instr.cancelTurn)) :=
      .postAll s (fromDetect_of_map (fun _ => rfl) _)
    split
    · exact (hcancel _).trans (lowerNext_sends _ _ _)
    · exact (hcancel _).trans (setRecord_sends _ _ _)

theorem takeTripOrder_sends (l : Load) : Sends P s (takeTripOrder l s) := by
  unfold takeTripOrder
  split
  · exact .refl s
  · split
    · exact .refl s
    · dsimp only
      have hcancel (r : SeqRecord) (cs : List Chan) : Sends P s ((s.setRecord l (some r)).postAll (cs.map Instr.cancelTurn)) :=
        (setRecord_sends s l _).trans (.postAll _ (fromDetect_of_map (fun _ => rfl) _))
      split
      · exact hcancel _ _
      · split
        · exact (hcancel _ _).trans (.post _ rfl)
        · exact (hcancel _ _).trans (.postAll _ (fromDetect_of_map (fun _ => rfl) _))

theorem examineRecord_sends (l : Load) : Sends P s (examineRecord s l) := by
  unfold examineRecord
  split
  · exact .refl s
  · split
    · exact .refl s
    · split
      · split
        · exact .refl s
        · exact (setRecord_sends s _ _).trans (.post _ rfl)
      · exact lowerNext_sends s _ _
      all_goals exact .refl s

theorem takeReturn_sends (l : Load) : Sends P s (takeReturn l s) :=
  (setRecord_sends s l none).trans (.foldl examineRecord_sends _ _)

theorem takeCancelDrain_sends (l : Load) : Sends P s (takeCancelDrain l s) := by
  unfold takeCancelDrain
  split
  · exact .refl s
  · split <;> exact .of_eq rfl rfl

/-! ## The arbiter -/

theorem grant_sends (e : Entry) : Sends P s (grant e s) :=
  .after ((Sends.handOver _ _).trans (.post _ rfl)) rfl rfl

theorem scan_sends (q : List Entry) : Sends P s (scan q s).2.2 := by
  induction q generalizing s with
  | nil => exact .refl s
  | cons e q ih =>
    unfold scan
    split
    · exact ih s
    · split
      · exact (grant_sends s e).trans (ih (grant e s))
      · split
        · exact ih s
        · exact .refl s

theorem grantPass_sends : Sends P s (grantPass s) := by
  unfold grantPass
  split
  · exact .refl s
  · exact (scan_sends s s.queue).trans (.of_eq rfl rfl)

theorem descendInOrder_sends (l : Load) (a : After) : Sends P s (descendInOrder l a s) :=
  .after (.post _ rfl) rfl rfl

theorem select_sends : Sends P s (select s) := by
  unfold select
  split
  · exact .of_eq rfl rfl
  · exact (descendInOrder_sends s _ .idle).trans (.of_eq rfl rfl)

theorem selectIfSeeking_sends : Sends P s (selectIfSeeking s) := by
  unfold selectIfSeeking
  split
  · exact select_sends s
  · exact .refl s

theorem judge_sends (o : Origin) (l : Load) : Sends P s (judge o l s).2 := by
  unfold judge
  split
  · exact .refl s
  · split
    · split
      · exact .refl s
      · split
        · exact .refl s
        · exact .of_eq rfl rfl
    case h_5 => exact .after (.post _ rfl) rfl rfl
    all_goals exact .of_eq rfl rfl

theorem request_sends (o : Origin) (l : Load) : Sends P s (request o l s).2 := by
  have hjudge := judge_sends (P := P) s o l
  simp only [request]
  split
  · exact hjudge.trans (grantPass_sends _)
  · exact hjudge.trans ((grantPass_sends _).trans (selectIfSeeking_sends _))
  · exact hjudge

theorem noteRefusal_sends (l : Load) (r : ResultCode × State) : Sends P r.2 (noteRefusal l r) := by
  unfold noteRefusal
  split
  · exact .handOver _ _
  · exact .refl _

theorem tripDescendant_sends (x : Load) : Sends P s (tripDescendant s x) := by
  unfold tripDescendant
  refine Sends.trans ?_ (.post _ rfl)
  split <;> exact .of_eq rfl rfl

theorem trip_sends (l : Load) (a : After) : Sends P s (trip l a s) :=
  .after ((Sends.post _ rfl).trans (.foldl tripDescendant_sends _ _)) rfl rfl

theorem takeLoadUp_sends (l : Load) : Sends P s (takeLoadUp l s) := by
  unfold takeLoadUp
  split
  case h_1 => exact .after ((Sends.handOver _ _).trans (grantPass_sends _)) rfl rfl
  all_goals exact .refl s

theorem settleLoad_sends (l : Load) (next : DownState) : Sends P s (settleLoad l next s) := by
  cases next <;> exact .of_eq rfl rfl

theorem continueDescent_sends (l : Load) : Sends P s (continueDescent l s) := by
  unfold continueDescent
  split
  · split
    · split
      · exact select_sends s
      · exact .of_eq rfl rfl
    · exact .refl s
  · exact select_sends s
  all_goals exact .refl s

theorem takeDescentEnded_sends (l : Load) : Sends P s (takeDescentEnded l s) := by
  unfold takeDescentEnded
  split
  case h_1 =>
    have hsettled (m : Mode) (n : Notice) (next : DownState) (x : State) :
        Sends P x (continueDescent l (grantPass (noteMode m (settleLoad l next (handOver n x))))) :=
      (Sends.handOver n x).trans ((settleLoad_sends _ l next).trans ((Sends.noteMode m _).trans
        ((grantPass_sends _).trans (continueDescent_sends _ l))))
    exact .after ((Sends.post (i := .returnReport l) _ rfl).trans (hsettled _ _ _ _)) rfl rfl
  all_goals exact .refl s

theorem takeDrainEnded_sends (l : Load) : Sends P s (takeDrainEnded l s) := by
  unfold takeDrainEnded
  split
  case h_1 => exact descendInOrder_sends s l .idle
  all_goals exact .refl s

theorem takeFaultReport_sends (c : Chan) : Sends P s (takeFaultReport c s) := by
  unfold takeFaultReport
  dsimp only
  split
  · exact trip_sends s _ _
  · exact .refl s

/-! ## The drain within a release -/

theorem drainDescendant_sends (x : Load) : Sends P s (drainDescendant s x) := by
  unfold drainDescendant
  split
  case h_1 | h_2 | h_3 => exact descendInOrder_sends s x _
  all_goals exact .refl s

/-- The order to drain takes a cancel drain and a "drain ended" of its load out of flight, and nothing of the detect unit's (log 20). -/
theorem recordToDrain_sends (l : Load) : Sends (fromDetect · = true) s (recordToDrain l s) := by
  have hfilter : Sends (fromDetect · = true) s
      { s with posted := s.posted.filter fun i => i != .cancelDrain l && i != .drainEnded l } := by
    refine ⟨rfl, _, [], fun j hj => ?_, nofun, (List.append_nil _).symm⟩
    cases j <;> cases hj <;> rfl
  unfold recordToDrain
  refine hfilter.trans ?_
  dsimp only
  split
  · exact .refl _
  · exact setRecord_sends _ _ _

theorem beginDrain_sends (l : Load) : Sends (fromDetect · = true) s (beginDrain l s) :=
  .after ((Sends.foldl drainDescendant_sends _ _).trans (recordToDrain_sends _ l)) rfl rfl

theorem releaseByState_sends (l : Load) : Sends (fromDetect · = true) s (releaseByState l s).2 := by
  unfold releaseByState
  split
  case h_4 => exact .after (grantPass_sends _) rfl rfl
  case h_5 => exact descendInOrder_sends s l .idle
  case h_6 =>
    dsimp only
    split
    · exact descendInOrder_sends s l .idle
    · exact beginDrain_sends s l
  all_goals exact .of_eq rfl rfl

/-! ## Delivery -/

/-- What is in flight stays there while an event is delivered: all of it, but that a release of the detect unit can take orders to
and reports of the load sequencer out. -/
theorem deliver_sends {i : Instr} (hP : fromDetect i = true → ∀ j, P j → fromDetect j = true) : Sends P s (deliver i s) := by
  cases i with
  | startRamp c => exact channelStart_sends s c
  | waitTurn c => exact channelWait_sends s c
  | fall c => exact channelFall_sends s c
  | cancelTurn c => exact channelCancel_sends s c
  | grantHandover l => exact takeGrant_sends s l
  | orderlyDescentOrder l => exact takeOrderlyOrder_sends s l
  | tripOrder l => exact takeTripOrder_sends s l
  | returnReport l => exact takeReturn_sends s l
  | cancelDrain l => exact takeCancelDrain_sends s l
  | channelOn c => exact takeChannelOn_sends s c
  | fallComplete c => exact takeFallComplete_sends s c
  | loadUp l => exact takeLoadUp_sends s l
  | descentEnded l => exact takeDescentEnded_sends s l
  | drainEnded l => exact takeDrainEnded_sends s l
  | faultReport c _ => exact takeFaultReport_sends s c
  | autoRequest l | bootRequest l => exact (request_sends s _ l).trans (noteRefusal_sends l _)
  | autoRelease l =>
    have hrelease : Sends (fromDetect · = true) s (deliver (.autoRelease l) s) :=
      .after (releaseByState_sends _ l) rfl rfl
    obtain ⟨hx, r, new, hr, hnew, hp⟩ := hrelease
    exact ⟨hx, r, new, fun j hj => hr j (hP rfl j hj), hnew, hp⟩
  | _ => exact .refl s

end Sys2Proof.Machine
end

section
/-! SUPPORT. The events in flight with what made them, and what is kept of them (log 2, log 31), for O21. -/

namespace Sys2Proof.Machine

/-! ## What made each event -/

theorem withSources_filter {r : Instr → Bool} (hr : ∀ j, fromDetect j = true → r j = true) (is : List Instr)
    (xs : List DetectSource) : withSources (is.filter r) xs = (withSources is xs).filter fun x => r x.1 := by
  induction is generalizing xs with
  | nil => rfl
  | cons i is ih =>
    cases hi : fromDetect i with
    | true => simp [withSources, hi, hr i hi, ih]
    | false => cases hri : r i <;> simp [withSources, hi, hri, ih]

theorem withSources_append {new : List Instr} (hnew : ∀ j ∈ new, fromDetect j = false) (is : List Instr)
    (xs : List DetectSource) : withSources (is ++ new) xs = withSources is xs ++ new.map fun j => (j, .asked) := by
  have hplain (ys : List DetectSource) : withSources new ys = new.map fun j => (j, .asked) := by
    clear is xs
    induction new with
    | nil => rfl
    | cons j new ih =>
      have hj : fromDetect j = false := hnew j List.mem_cons_self
      simp [withSources, hj, ih fun k hk => hnew k (List.mem_cons_of_mem _ hk)]
  induction is generalizing xs with
  | nil => exact hplain xs
  | cons i is ih => cases hi : fromDetect i <;> simp [withSources, hi, ih]

/-- The first event of its name leaves, with what made it. -/
theorem withSources_erase {i : Instr} {src : DetectSource} {is : List Instr} {xs : List DetectSource}
    {before after : List (Instr × DetectSource)} (h : withSources is xs = before ++ (i, src) :: after)
    (hfirst : ∀ x ∈ before, x.1 ≠ i) :
    withSources (is.erase i) (if fromDetect i then xs.eraseIdx ((is.takeWhile (· != i)).countP fromDetect) else xs) =
      before ++ after := by
  induction is generalizing xs before with
  | nil => simp [withSources] at h
  | cons j is ih =>
    cases before with
    | nil =>
      cases hj : fromDetect j <;> simp only [withSources, hj, List.nil_append, if_true, Bool.false_eq_true, if_false,
        List.cons.injEq, Prod.mk.injEq] at h
      · obtain ⟨⟨rfl, -⟩, h⟩ := h
        simp [hj, h]
      · obtain ⟨⟨rfl, -⟩, h⟩ := h
        simp [hj, h]
    | cons x before =>
      have hne : x.1 ≠ i := hfirst x List.mem_cons_self
      have hrest : ∀ y ∈ before, y.1 ≠ i := fun y hy => hfirst y (List.mem_cons_of_mem _ hy)
      cases hj : fromDetect j <;> simp only [withSources, hj, List.cons_append, if_true, Bool.false_eq_true, if_false,
        List.cons.injEq] at h
      · obtain ⟨rfl, h⟩ := h
        have hji : (j == i) = false := beq_eq_false_iff_ne.mpr hne
        have hji' : (j != i) = true := bne_iff_ne.mpr hne
        rw [List.erase_cons, hji, List.takeWhile_cons, hji', List.cons_append, ← ih h hrest]
        simp [withSources, hj]
      · obtain ⟨rfl, h⟩ := h
        have hji : (j == i) = false := beq_eq_false_iff_ne.mpr hne
        have hji' : (j != i) = true := bne_iff_ne.mpr hne
        rw [List.erase_cons, hji, List.takeWhile_cons, hji', List.cons_append, ← ih h hrest]
        cases hi : fromDetect i <;> cases xs <;> simp [withSources, hj]

/-- The events in flight after one of them has been consumed. -/
theorem State.flight_consume {s : State} {i : Instr} {src : DetectSource} {before after : List (Instr × DetectSource)}
    (h : s.flight = before ++ (i, src) :: after) (hfirst : ∀ x ∈ before, x.1 ≠ i) : (s.consume i).flight = before ++ after :=
  withSources_erase h hfirst

/-- The events in flight after a step that sends some. -/
theorem Sends.flight {P : Instr → Prop} {s t : State} (h : Sends P s t) (hP : ∀ j, fromDetect j = true → P j) :
    ∃ r : Instr → Bool, ∃ new, (∀ j, P j → r j = true) ∧ t.flight = s.flight.filter (fun x => r x.1) ++ new := by
  obtain ⟨hx, r, new, hr, hnew, hp⟩ := h
  refine ⟨r, new.map fun j => (j, .asked), hr, ?_⟩
  unfold State.flight
  rw [hp, hx, withSources_append hnew, withSources_filter fun j hj => hr j (hP j hj)]

/-! ## What is kept of some events -/

namespace Image

variable {img : Image} {q : Instr × DetectSource → Bool}

theorem upTo_cons (x : Instr × DetectSource) (es : List (Instr × DetectSource)) : img.upTo q (x :: es) =
    if q x || (img.upTo q es).any (img.follows · x) then x :: img.upTo q es else img.upTo q es := rfl

/-- An event that is not kept has not the property, and nothing that is kept may not overtake it. -/
abbrev Passes (img : Image) (q : Instr × DetectSource → Bool) (kept : List (Instr × DetectSource)) (x : Instr × DetectSource) :
    Prop := q x = false ∧ ∀ k ∈ kept, img.follows k x = false

theorem passes_iff {kept : List (Instr × DetectSource)} {x : Instr × DetectSource} :
    img.Passes q kept x ↔ ¬(q x || kept.any (img.follows · x)) = true := by
  simp [Passes]

/-- What stands before the first event that is kept. -/
theorem upTo_eq_cons {e : Instr × DetectSource} {kept es : List (Instr × DetectSource)} (h : img.upTo q es = e :: kept) :
    ∃ before after, es = before ++ e :: after ∧ img.upTo q after = kept ∧ ∀ x ∈ before, img.Passes q (e :: kept) x := by
  induction es with
  | nil => cases h
  | cons x es ih =>
    rw [upTo_cons] at h
    split at h
    · obtain ⟨rfl, rfl⟩ := List.cons.inj h
      exact ⟨[], es, rfl, rfl, nofun⟩
    next hx =>
      obtain ⟨before, after, rfl, hafter, hbefore⟩ := ih h
      refine ⟨x :: before, after, rfl, hafter, fun y hy => ?_⟩
      rcases List.mem_cons.mp hy with rfl | hy
      · rw [h] at hx
        exact passes_iff.mpr hx
      · exact hbefore y hy

theorem upTo_append {before after : List (Instr × DetectSource)} (h : ∀ x ∈ before, img.Passes q (img.upTo q after) x) :
    img.upTo q (before ++ after) = img.upTo q after := by
  induction before with
  | nil => rfl
  | cons x before ih =>
    have hrest := ih fun y hy => h y (List.mem_cons_of_mem _ hy)
    rw [List.cons_append, upTo_cons, hrest, if_neg (passes_iff.mp (h x List.mem_cons_self))]

/-- What is not kept can leave without a change of what is kept. -/
theorem upTo_filter {r : Instr × DetectSource → Bool} {es : List (Instr × DetectSource)}
    (h : ∀ k ∈ img.upTo q es, r k = true) : img.upTo q (es.filter r) = img.upTo q es := by
  induction es with
  | nil => rfl
  | cons x es ih =>
    rw [upTo_cons] at h ⊢
    split at h
    next hx =>
      have hrest := ih fun k hk => h k (List.mem_cons_of_mem _ hk)
      rw [List.filter_cons_of_pos (h x List.mem_cons_self), upTo_cons, hrest]
    next hx =>
      have hrest := ih h
      rw [if_neg hx]
      cases hr : r x with
      | true => rw [List.filter_cons_of_pos hr, upTo_cons, hrest, if_neg hx]
      | false => rw [List.filter_cons_of_neg (Bool.eq_false_iff.mp hr), hrest]

end Image

end Sys2Proof.Machine
end

section
/-! O21: the events kept before another are taken one after another, each with nothing older left (log 31). -/

namespace Sys2Proof.Machine

/-- The next state of a command that has one. -/
def State.run (s : State) (i : Instr) : State :=
  match exec i s with
  | .next t => t
  | .fault _ | .refused _ => s

/-- An event between two units is taken in the order of its link. -/
theorem exec_of_link {i : Instr} (h : (linkOf i).isSome = true) (s : State) : exec i s = takeInOrder i s := by
  cases i with
  | grantHandover _ | orderlyDescentOrder _ | tripOrder _ | returnReport _ | cancelDrain _ | loadUp _ | descentEnded _
  | drainEnded _ | startRamp _ | waitTurn _ | fall _ | cancelTurn _ | channelOn _ | fallComplete _ | faultReport _ _
  | autoRequest _ | autoRelease _ | bootRequest _ => rfl
  | _ => cases h

section
variable {s : State} {i : Instr} {src : DetectSource} {before after : List (Instr × DetectSource)}

theorem takeWhile_flight (hf : s.flight = before ++ (i, src) :: after) (hfirst : ∀ x ∈ before, x.1 ≠ i) :
    s.flight.takeWhile (·.1 != i) = before := by
  rw [hf, List.takeWhile_append_of_pos fun x hx => bne_iff_ne.mpr (hfirst x hx)]
  simp

theorem mem_posted_of_flight (hf : s.flight = before ++ (i, src) :: after) : i ∈ s.posted := by
  rw [← s.flight_map_fst, hf]
  simp

theorem sourceOf_flight (hf : s.flight = before ++ (i, src) :: after) (hfirst : ∀ x ∈ before, x.1 ≠ i) : s.sourceOf i = src := by
  have hnone : before.find? (·.1 == i) = none := List.find?_eq_none.mpr fun x hx => by simp [hfirst x hx]
  unfold State.sourceOf
  rw [State.sent_of_mem (mem_posted_of_flight hf), hf, List.find?_append, hnone]
  simp

/-- What stands before the first event of a name. -/
theorem older_flight (hf : s.flight = before ++ (i, src) :: after) (hfirst : ∀ x ∈ before, x.1 ≠ i) :
    s.older i = (s.config.upTo (s.config.follows (i, src)) before).map (·.1) := by
  unfold State.older
  rw [takeWhile_flight hf hfirst, sourceOf_flight hf hfirst]

end

/-- An event follows one of its own name. -/
theorem Image.follows_self {img : Image} {i : Instr} {x y : DetectSource} (h : (linkOf i).isSome = true) :
    img.follows (i, x) (i, y) = true := by
  unfold Image.follows sameLink
  rw [h, beq_self_eq_true]
  rfl

section
variable {P : Instr → Prop} {q : Instr × DetectSource → Bool}

/-- The first event that is kept is taken with nothing older before it, and the others stay as they are. -/
theorem serve_first {s : State} {e : Instr × DetectSource} {kept es rest : List (Instr × DetectSource)} (hr : s.running = true)
    (hf : s.flight = es ++ rest) (hk : s.config.upTo q es = e :: kept) (hlink : (linkOf e.1).isSome = true)
    (hdet : ∀ j, fromDetect j = true → P j) (hP : fromDetect e.1 = true → ∀ j, P j → fromDetect j = true)
    (hkept : ∀ k ∈ kept, P k.1) :
    serve s e.1 = s.run e.1
      ∧ ∃ es' : List (Instr × DetectSource), ∃ r : Instr → Bool, ∃ new, (∀ j, P j → r j = true) ∧ (∀ x ∈ es', x ∈ es)
        ∧ (serve s e.1).flight = es' ++ (rest.filter (fun x => r x.1) ++ new) ∧ s.config.upTo q es' = kept := by
  obtain ⟨i, src⟩ := e
  obtain ⟨before, after, rfl, hafter, hpass⟩ := Image.upTo_eq_cons hk
  have hflight : s.flight = before ++ (i, src) :: (after ++ rest) := by
    rw [hf]
    simp
  have hfirst : ∀ x ∈ before, x.1 ≠ i := by
    rintro ⟨_, y⟩ hx rfl
    have hno := (hpass _ hx).2 (_, src) List.mem_cons_self
    rw [Image.follows_self hlink] at hno
    cases hno
  have holder : s.older i = [] := by
    rw [older_flight hflight hfirst, Image.upTo_eq_nil fun x hx => (hpass x hx).2 _ List.mem_cons_self]
    rfl
  have hrun : s.run i = serve s i := by
    unfold State.run
    rw [exec_of_link hlink, takeInOrder_of_no_older hr holder]
    rfl
  obtain ⟨r, new, hkeep, hserved⟩ := (deliver_sends (s.consume i) hP).flight hdet
  refine ⟨hrun.symm, (before ++ after).filter fun x => r x.1, r, new, hkeep, fun x hx => ?_, ?_, ?_⟩
  · rcases List.mem_append.mp (List.mem_of_mem_filter hx) with hx | hx
    · exact List.mem_append_left _ hx
    · exact List.mem_append_right _ (List.mem_cons_of_mem _ hx)
  · refine hserved.trans ?_
    rw [State.flight_consume hflight hfirst]
    simp
  · have hrest : s.config.upTo q (before ++ after) = kept := by
      rw [Image.upTo_append, hafter]
      intro x hx
      rw [hafter]
      exact ⟨(hpass x hx).1, fun k hk => (hpass x hx).2 k (List.mem_cons_of_mem _ hk)⟩
    rw [Image.upTo_filter, hrest]
    intro k hk
    rw [hrest] at hk
    exact hkeep _ (hkept k hk)

/-- All that is kept of the oldest events is taken in turn, each event alone, and what stands behind stays in its order. -/
theorem foldl_serve_kept (hdet : ∀ j, fromDetect j = true → P j) {kept : List (Instr × DetectSource)} :
    ∀ {s : State} {es rest : List (Instr × DetectSource)}, s.running = true → s.flight = es ++ rest → s.config.upTo q es = kept →
      (∀ k ∈ kept, (linkOf k.1).isSome = true ∧ P k.1 ∧ (fromDetect k.1 = true → ∀ j, P j → fromDetect j = true)) →
      (kept.map (·.1)).foldl serve s = (kept.map (·.1)).foldl State.run s
        ∧ ∃ es' : List (Instr × DetectSource), ∃ r : Instr → Bool, ∃ new, (∀ j, P j → r j = true) ∧ (∀ x ∈ es', x ∈ es)
          ∧ ((kept.map (·.1)).foldl serve s).flight = es' ++ (rest.filter (fun x => r x.1) ++ new) ∧ s.config.upTo q es' = [] := by
  induction kept with
  | nil =>
    intro s es rest _ hf hk _
    exact ⟨rfl, es, fun _ => true, [], fun _ _ => rfl, fun _ hx => hx, by simpa using hf, hk⟩
  | cons e kept ih =>
    intro s es rest hr hf hk hall
    obtain ⟨hlink, -, hP⟩ := hall e List.mem_cons_self
    obtain ⟨hrun, es₁, r₁, new₁, hkeep₁, hsub₁, hf₁, hk₁⟩ :=
      serve_first hr hf hk hlink hdet hP fun k hk => (hall k (List.mem_cons_of_mem _ hk)).2.1
    have hserved := serve_served s e.1
    rw [← hserved.config_eq] at hk₁
    obtain ⟨hruns, es₂, r₂, new₂, hkeep₂, hsub₂, hf₂, hk₂⟩ :=
      ih (hserved.running_eq.trans hr) hf₁ hk₁ fun k hk => hall k (List.mem_cons_of_mem _ hk)
    refine ⟨?_, es₂, fun j => r₁ j && r₂ j, new₁.filter (fun x => r₂ x.1) ++ new₂, fun j hj => ?_, fun x hx => hsub₁ x (hsub₂ x hx),
      ?_, ?_⟩
    · rw [List.map_cons, List.foldl_cons, List.foldl_cons, hruns, hrun]
    · exact Bool.and_eq_true_iff.mpr ⟨hkeep₁ j hj, hkeep₂ j hj⟩
    · refine hf₂.trans ?_
      rw [List.filter_append, List.filter_filter, List.append_assoc]
      simp only [Bool.and_comm]
    · rw [← hserved.config_eq]
      exact hk₂

end

end Sys2Proof.Machine
end

section
/-! O21: the statement's own words for links, sources and what follows what, and the order on a link (log 31). -/

namespace Sys2Proof.Machine

/-! ## Links -/

/-- The number of a link. -/
def Link.code : Link → Nat × Nat
  | .toSequencer => (0, 0)
  | .toArbiter => (1, 0)
  | .toChannel c => (2, c.val)
  | .fromChannel c => (3, c.val)
  | .faults c => (4, c.val)
  | .detect l => (5, l.val)
  | .boot => (6, 0)

theorem Link.code_injective : Function.Injective Link.code := by
  intro a b h
  have hnumber : a.code.2 = b.code.2 := congrArg Prod.snd h
  have hkind : a.code.1 = b.code.1 := congrArg Prod.fst h
  cases a <;> cases b <;> cases hkind
  case toSequencer.toSequencer.refl | toArbiter.toArbiter.refl | boot.boot.refl => rfl
  all_goals exact congrArg _ (Fin.ext hnumber)

theorem sameLink_eq (k j : Instr) : sameLink k j =
    (((linkOf k).map Link.code).isSome && (linkOf j).map Link.code == (linkOf k).map Link.code) := by
  have hcode : (linkOf j == linkOf k) = ((linkOf j).map Link.code == (linkOf k).map Link.code) := by
    rw [Bool.eq_iff_iff, beq_iff_eq, beq_iff_eq]
    exact (Option.map_injective Link.code_injective).eq_iff.symm
  rw [sameLink, hcode, Option.isSome_map]

theorem fromDetect_eq (j : Instr) : fromDetect j = match linkOf j with | some (.detect _) => true | _ => false := by
  cases j <;> rfl

theorem isSome_link_of_fromDetect {j : Instr} (h : fromDetect j = true) : (linkOf j).isSome = true := by
  rw [fromDetect_eq] at h
  cases hl : linkOf j <;> simp_all

/-- Only events of a link have something before them or stand before something, and all of them are the detect unit's or none. -/
theorem Image.link_of_follows {img : Image} {k x : Instr × DetectSource} (hk : k.2 ≠ .asked → fromDetect k.1 = true)
    (hx : x.2 ≠ .asked → fromDetect x.1 = true) (h : img.follows k x = true) :
    (linkOf x.1).isSome = true ∧ fromDetect x.1 = fromDetect k.1 := by
  unfold Image.follows at h
  rcases Bool.or_eq_true_iff.mp h with h | h
  · rcases Bool.or_eq_true_iff.mp h with h | h
    · obtain ⟨hsome, hsame⟩ := Bool.and_eq_true_iff.mp h
      have hsame := beq_iff_eq.mp hsame
      rw [fromDetect_eq, fromDetect_eq, hsame]
      exact ⟨hsome, rfl⟩
    · obtain ⟨hkr, hxr⟩ := Bool.and_eq_true_iff.mp h
      have hkd := hk (by rw [beq_iff_eq.mp hkr]; exact nofun)
      have hxd := hx (by rw [beq_iff_eq.mp hxr]; exact nofun)
      exact ⟨isSome_link_of_fromDetect hxd, hxd.trans hkd.symm⟩
  · split at h
    next hk hx => rw [hk, hx]; exact ⟨rfl, rfl⟩
    next hk hx => rw [hk, hx]; exact ⟨rfl, rfl⟩
    next hk hx => rw [hk, hx]; exact ⟨rfl, rfl⟩
    next hk hx => rw [hk, hx]; exact ⟨rfl, rfl⟩
    next => cases h

/-- What is kept of the events in flight goes along links, and is all the detect unit's where what it is kept for is. -/
theorem Image.upTo_links {img : Image} {q : Instr × DetectSource → Bool} {b : Bool} {es : List (Instr × DetectSource)}
    (hes : ∀ x ∈ es, x.2 ≠ .asked → fromDetect x.1 = true)
    (hq : ∀ x ∈ es, q x = true → (linkOf x.1).isSome = true ∧ fromDetect x.1 = b) :
    ∀ k ∈ img.upTo q es, (linkOf k.1).isSome = true ∧ fromDetect k.1 = b := by
  have hall := Image.upTo_all (img := img) (p := q) (es := es)
    (Q := fun x => ((linkOf x.1).isSome = true ∧ fromDetect x.1 = b) ∧ (x.2 ≠ .asked → fromDetect x.1 = true))
    (fun x hx hqx => ⟨hq x hx hqx, hes x hx⟩) fun x hx y hy hf => by
      obtain ⟨⟨-, hb⟩, hy⟩ := hy
      obtain ⟨hlink, hsame⟩ := Image.link_of_follows hy (hes x hx) hf
      exact ⟨⟨hlink, hsame.trans hb⟩, hes x hx⟩
  exact fun k hk => (hall k hk).1

/-! ## What is kept is taken in turn -/

/-- The events that stay where they are while events of a link are taken: all of them, or those of the detect unit. -/
def staysBehind (detect : Bool) (j : Instr) : Prop := detect = true → fromDetect j = true

theorem foldl_serve_links {q : Instr × DetectSource → Bool} {b : Bool} {s : State} {es rest : List (Instr × DetectSource)}
    (hr : s.running = true) (hf : s.flight = es ++ rest)
    (hq : ∀ x ∈ es, q x = true → (linkOf x.1).isSome = true ∧ fromDetect x.1 = b) :
    ((s.config.upTo q es).map (·.1)).foldl serve s = ((s.config.upTo q es).map (·.1)).foldl State.run s
      ∧ ∃ es' : List (Instr × DetectSource), ∃ r : Instr → Bool, ∃ new, (∀ j, staysBehind b j → r j = true) ∧ (∀ x ∈ es', x ∈ es)
        ∧ (((s.config.upTo q es).map (·.1)).foldl serve s).flight = es' ++ (rest.filter (fun x => r x.1) ++ new)
        ∧ s.config.upTo q es' = [] := by
  refine foldl_serve_kept (P := staysBehind b) (fun j hj _ => hj) hr hf rfl fun k hk => ?_
  have hes : ∀ x ∈ es, x.2 ≠ .asked → fromDetect x.1 = true := fun x hx =>
    (State.mem_flight (hf ▸ List.mem_append_left _ hx)).2
  obtain ⟨hlink, hb⟩ := Image.upTo_links hes hq k hk
  exact ⟨hlink, fun h => hb.trans h, fun h j hj => hj (hb.symm.trans h)⟩

theorem exists_first {i : Instr} {es : List (Instr × DetectSource)} (h : i ∈ es.map (·.1)) :
    ∃ before src after, es = before ++ (i, src) :: after ∧ ∀ x ∈ before, x.1 ≠ i := by
  induction es with
  | nil => cases h
  | cons x es ih =>
    by_cases hx : x.1 = i
    · subst hx
      exact ⟨[], x.2, es, rfl, nofun⟩
    · obtain ⟨before, src, after, rfl, hbefore⟩ := ih ((List.mem_cons.mp h).resolve_left (Ne.symm hx))
      exact ⟨x :: before, src, after, rfl, fun y hy => (List.mem_cons.mp hy).elim (fun e => e ▸ hx) (hbefore y)⟩

theorem foldl_serve_served (is : List Instr) (s : State) : Served s (is.foldl serve s) :=
  List.foldlRecOn (motive := fun t => Served s t) _ _ (.refl s) fun t ht j _ => ht.trans (serve_served t j)

/-- An event that is commanded takes those before it first, and then nothing stands before it (log 31). -/
theorem exec_after_older {i : Instr} {s : State} (hr : s.running = true) (hlink : (linkOf i).isSome = true) (hi : i ∈ s.posted) :
    exec i s = exec i ((s.older i).foldl State.run s) ∧ ((s.older i).foldl State.run s).older i = [] := by
  obtain ⟨before, src, after, hf, hfirst⟩ := exists_first (s.flight_map_fst.symm ▸ hi)
  have hsrc : (i, src).2 ≠ .asked → fromDetect (i, src).1 = true := (State.mem_flight (by rw [hf]; simp)).2
  have holder := older_flight hf hfirst
  obtain ⟨hrun, es', r, new, hkeep, hsub, hflight, hnone⟩ :=
    foldl_serve_links (q := s.config.follows (i, src)) (b := fromDetect i) hr hf fun x hx hq =>
      Image.link_of_follows hsrc (State.mem_flight (by rw [hf]; exact List.mem_append_left _ hx)).2 hq
  rw [← holder] at hrun hflight
  rw [← hrun]
  have hserved := foldl_serve_served (s.older i) s
  set t := (s.older i).foldl serve s with ht
  have htrun : t.running = true := hserved.running_eq.trans hr
  rw [List.filter_cons_of_pos (p := fun x => r x.1) (a := (i, src)) (hkeep i fun h => h)] at hflight
  have htolder : t.older i = [] := by
    rw [older_flight hflight fun x hx => hfirst x (hsub x hx), hserved.config_eq, hnone]
    rfl
  refine ⟨?_, htolder⟩
  rw [exec_of_link hlink, exec_of_link hlink, takeInOrder_of_no_older htrun htolder, takeInOrder, if_pos hr,
    State.sent_of_mem hi, List.foldl_append, ← ht]
  rfl

/-- What a command may not overtake is taken in turn, with what that may not overtake (log 27). -/
theorem settleFor_eq_run {p : Instr → DetectSource → Bool} {b : Bool} {s : State} (hr : s.running = true)
    (hp : ∀ x ∈ s.flight, p x.1 x.2 = true → (linkOf x.1).isSome = true ∧ fromDetect x.1 = b) :
    settleFor p s = ((s.config.upTo (fun x => p x.1 x.2) s.flight).map (·.1)).foldl State.run s :=
  (if_pos hr).trans (foldl_serve_links (rest := []) hr (List.append_nil _).symm hp).1

/-! ## What made the events of the detect unit -/

theorem withSources_detect (is : List Instr) (xs : List DetectSource) {n : Nat} (hn : is.countP fromDetect ≤ n) :
    ((withSources is xs).filter fun x => fromDetect x.1).map (·.2) =
      (xs ++ List.replicate n DetectSource.asked).take (is.countP fromDetect) := by
  induction is generalizing xs n with
  | nil => rfl
  | cons i is ih =>
    cases hi : fromDetect i with
    | false =>
      rw [List.countP_cons_of_neg (by simp [hi])] at hn ⊢
      simp [withSources, hi, ih xs hn]
    | true =>
      rw [List.countP_cons_of_pos hi] at hn ⊢
      obtain ⟨n, rfl⟩ : ∃ m, n = m + 1 := ⟨n - 1, by omega⟩
      cases xs with
      | nil => simp [withSources, hi, ih [] (n := n) (by omega), List.replicate_succ]
      | cons x xs => simp [withSources, hi, ih xs (n := n + 1) (by omega)]

/-- Settles O21: the names of the links, and the events that are kept, taken in turn. -/
theorem eventsOfALinkComeInOrder : Obligations.EventsOfALinkComeInOrder := by
  unfold Obligations.EventsOfALinkComeInOrder
  intro i s hr link detect run sent source follows needed first
  have hlink (j : Instr) : link j = (linkOf j).map Link.code := by cases j <;> rfl
  have hdetect (j : Instr) : detect j = fromDetect j := by cases j <;> rfl
  have hrun (x : State) (j : Instr) : run x j = x.run j := rfl
  have hsent : sent = s.sent i := by
    by_cases h : i ∈ s.posted
    · rw [State.sent_of_mem h]
      exact if_pos h
    · rw [State.sent_of_not_mem h]
      exact if_neg h
  have hsource : source = s.sourceOf i := by
    unfold State.sourceOf
    rw [← hsent]
    change (match sent.flight.find? (·.1 == i) with | some x => x.2 | none => .asked) = _
    cases sent.flight.find? (·.1 == i) <;> rfl
  have hfollows : follows = s.config.follows := by
    funext k j
    have hsame := sameLink_eq k.1 j.1
    rw [← hlink, ← hlink] at hsame
    unfold Image.follows
    rw [hsame]
    rfl
  have hneeded (p : Instr × DetectSource → Bool) (es : List (Instr × DetectSource)) :
      needed p es = (s.config.upTo p es).map (·.1) := by
    unfold Image.upTo
    rw [← hfollows]
  have hfirst : s.older i = first := by
    change _ = needed (follows (i, source)) _
    rw [hneeded, hfollows, hsource]
    rfl
  have hlinked (h : link i ≠ none) : (linkOf i).isSome = true := by
    rw [hlink] at h
    exact Option.isSome_iff_ne_none.mpr fun hn => h (hn ▸ rfl)
  have hsources : (s.flight.filter fun x => detect x.1).map (·.2) =
      (s.sources ++ List.replicate s.posted.length DetectSource.asked).take (s.posted.countP detect) := by
    rw [funext hdetect]
    exact withSources_detect s.posted s.sources List.countP_le_length
  refine ⟨s.flight_map_fst, hsources, fun x hx hd => ?_, hfirst, fun hl hi => ?_, fun hl hi => ?_, fun p hp => ?_⟩
  · by_contra hasked
    exact Bool.false_ne_true (hd.symm.trans ((hdetect x.1).trans ((State.mem_flight hx).2 hasked)))
  · rw [← hfirst]
    exact exec_after_older hr (hlinked hl) hi
  · rw [exec_of_link (hlinked hl), exec_of_link (hlinked hl), takeInOrder_sent hr, State.sent_of_not_mem hi]
    rfl
  · rw [hneeded]
    rcases hp with hp | hp
    · exact settleFor_eq_run hr fun x hx hpx => by
        have hd : fromDetect x.1 = true := (hdetect x.1).symm.trans (hp x hx hpx)
        exact ⟨isSome_link_of_fromDetect hd, hd⟩
    · exact settleFor_eq_run hr fun x hx hpx => by
        obtain ⟨l, hl⟩ := hp x.1 x.2 hpx
        rw [hl]
        exact ⟨rfl, rfl⟩

end Sys2Proof.Machine
end
